-- ==== Sys2Proof/Word.lean ====
section
/-! DEFINITION. The two data widths of the machine (00_scope.md R6). Byte order, bit fields and sign extension are in
Decode.lean and Machine/Operands.lean. -/

namespace Sys2Proof

/-- A byte: 8 bits, unsigned, arithmetic modulo 2^8 (00_scope.md R6). -/
abbrev Byte := BitVec 8

/-- A word: 16 bits, unsigned, arithmetic modulo 2^16 (00_scope.md R6). -/
abbrev Word := BitVec 16

end Sys2Proof
end

