-- ==== Sys2Proof/Config.lean ====
section
/-! DEFINITION. What an implementation fixes: the size of the memory space, what a byte that nothing has written holds, and the
run mode before the host sets one (00_scope.md R7). -/

namespace Sys2Proof.Config

/-- What a mapped byte that nothing has written holds: 0x00 (20_memory.md R67). -/
def unlistedByte : Byte := 0x00#8

/-- The number of addresses of the memory space, 2^16 (20_memory.md R60). -/
def addressSpace : Nat := 0x10000

/-- DESIGN CHOICE (log 8, safe): the opaque run mode before the host sets one. No rule reads it (10_state.md R42). -/
def powerOnRunMode : Nat := 0

end Sys2Proof.Config
end

