-- ==== Sys2Proof/Syntax.lean ====
section
/-! DEFINITION. The syntax of the machine: components, bus transactions (microcode steps), microcode entries, and the 223
instructions of the default opcode map (30_encoding.md R120), one constructor of `Instr` for each row of
spec/opcode_table.json, in the table's order. -/

namespace Sys2Proof

/-- The byte registers (set BREG of 10_state.md R21). -/
inductive ByteReg where
  | a | b | c | d | lhs | ir
deriving DecidableEq, Repr

/-- The address registers (set AREG of 10_state.md R21). -/
inductive AddrReg where
  | pc | sp | bp | si | di | tx | memaddr
deriving DecidableEq, Repr

/-- The components on the bus (10_state.md R20): six byte registers, seven address registers, the ALU, the memory data
port, and the reserved non-dispatchable id NONE. Every 4-bit id names exactly one of the sixteen. -/
inductive CompId where
  | byte (r : ByteReg)
  | addr (r : AddrReg)
  | alu
  | none
  | mem
deriving DecidableEq, Repr

/-- The kind of a transaction (10_state.md R40, 30_encoding.md R98). -/
inductive Kind where
  | xdata | xaddr | io | other
deriving DecidableEq, Repr

/-- The 4-bit opflags selector of a step (30_encoding.md R96). -/
abbrev OpFlags := BitVec 4

/-- INC, on XDATA (put other than ALU) and XADDR steps (30_encoding.md R96). -/
def OpFlags.inc : OpFlags := 0x1#4
/-- DEC, on the same steps. -/
def OpFlags.dec : OpFlags := 0x2#4
/-- MSB, on XDATA steps with put other than ALU. -/
def OpFlags.msb : OpFlags := 0x4#4
/-- IDX, on XDATA steps with put other than ALU. -/
def OpFlags.idx : OpFlags := 0x8#4
/-- FLAGS, on XADDR steps with the ALU as get or put. -/
def OpFlags.flags : OpFlags := 0x8#4
/-- IOIN, on IO steps. -/
def OpFlags.ioIn : OpFlags := 0x1#4
/-- IOOUT, on IO steps. -/
def OpFlags.ioOut : OpFlags := 0x2#4
/-- HALT, on OTHER steps. -/
def OpFlags.halt : OpFlags := 0x1#4

/-- The INC bit. -/
def OpFlags.hasInc (f : OpFlags) : Bool := f.getLsbD 0
/-- The DEC bit. -/
def OpFlags.hasDec (f : OpFlags) : Bool := f.getLsbD 1
/-- The MSB bit. -/
def OpFlags.hasMsb (f : OpFlags) : Bool := f.getLsbD 2
/-- The IDX bit. -/
def OpFlags.hasIdx (f : OpFlags) : Bool := f.getLsbD 3

/-- A microcode step, one bus transaction (30_encoding.md R96). In an IO step the channel side holds the channel number as
the component that has that 4-bit id (R97). -/
structure Step where
  kind : Kind
  get : CompId
  put : CompId
  opflags : OpFlags
  done : Bool
deriving DecidableEq, Repr

/-- The sixteen ALU operations (41_alu.md R181). -/
inductive AluOp where
  | add | adc | sub | sbb | and | or | xor | not | shl | shr | clr | cmp | inc | dec | wadd | wsub
deriving DecidableEq, Repr

/-- The seven addressing modes (30_encoding.md R91). -/
inductive Mode where
  | implied | immediateByte | immediateWord | indirectByte | indirectWord | indexedByte | indexedWord
deriving DecidableEq, Repr

/-- The comparison operator of a branch condition (30_encoding.md R101). -/
inductive CondOp where
  | and | nand
deriving DecidableEq, Repr

/-- A branch condition: a mask on the flags byte and an operator (30_encoding.md R100, R101). -/
structure Cond where
  mask : Byte
  op : CondOp
deriving DecidableEq, Repr

/-- A microcode entry (30_encoding.md R100). For the indexed modes the subject is the base register. -/
structure Entry where
  mnemonic : String
  mode : Mode
  subject : Option CompId
  cond : Option Cond
  msbFirst : Bool
  steps : List Step
deriving DecidableEq, Repr

/-- The microcode table, a parameter the host may supply (30_encoding.md R100, R110): the spec's default table, or the
host's rows (opcode, entry), where an opcode without a row is unassigned and the first row of an opcode counts. -/
inductive MicrocodeTable where
  | default
  | host (rows : List (Byte × Entry))
deriving DecidableEq, Repr

/-- The instructions of the default opcode map (30_encoding.md R120, R121), one constructor for each row of
spec/opcode_table.json. Operands are the instruction's own: an immediate byte `i8`, a word `i16` or `a16`, a displacement
byte `d8` (R93); every value is legal (R95). -/
inductive Instr where
  | nop
  | movAImm (i8 : Byte)
  | movBImm (i8 : Byte)
  | movCImm (i8 : Byte)
  | movDImm (i8 : Byte)
  | movAMem (a16 : Word)
  | movBMem (a16 : Word)
  | movCMem (a16 : Word)
  | movDMem (a16 : Word)
  | movMemA (a16 : Word)
  | movMemB (a16 : Word)
  | movMemC (a16 : Word)
  | movMemD (a16 : Word)
  | movAB
  | movAC
  | movAD
  | movBA
  | movBC
  | movBD
  | movCA
  | movCB
  | movCD
  | movDA
  | movDB
  | movDC
  | movSpImm (i16 : Word)
  | movBpImm (i16 : Word)
  | movSiImm (i16 : Word)
  | movDiImm (i16 : Word)
  | movSpMem (a16 : Word)
  | movBpMem (a16 : Word)
  | movSiMem (a16 : Word)
  | movDiMem (a16 : Word)
  | movMemSp (a16 : Word)
  | movMemBp (a16 : Word)
  | movMemSi (a16 : Word)
  | movMemDi (a16 : Word)
  | movSpBp
  | movSpSi
  | movSpDi
  | movBpSp
  | movBpSi
  | movBpDi
  | movSiSp
  | movSiBp
  | movSiDi
  | movDiSp
  | movDiBp
  | movDiSi
  | movABpIdx (d8 : Byte)
  | movASiIdx (d8 : Byte)
  | movADiIdx (d8 : Byte)
  | movBBpIdx (d8 : Byte)
  | movBSiIdx (d8 : Byte)
  | movBDiIdx (d8 : Byte)
  | movCBpIdx (d8 : Byte)
  | movCSiIdx (d8 : Byte)
  | movCDiIdx (d8 : Byte)
  | movDBpIdx (d8 : Byte)
  | movDSiIdx (d8 : Byte)
  | movDDiIdx (d8 : Byte)
  | movBpIdxA (d8 : Byte)
  | movSiIdxA (d8 : Byte)
  | movDiIdxA (d8 : Byte)
  | movBpIdxB (d8 : Byte)
  | movSiIdxB (d8 : Byte)
  | movDiIdxB (d8 : Byte)
  | movBpIdxC (d8 : Byte)
  | movSiIdxC (d8 : Byte)
  | movDiIdxC (d8 : Byte)
  | movBpIdxD (d8 : Byte)
  | movSiIdxD (d8 : Byte)
  | movDiIdxD (d8 : Byte)
  | movSiBpIdx (d8 : Byte)
  | movDiBpIdx (d8 : Byte)
  | movBpIdxSi (d8 : Byte)
  | movBpIdxDi (d8 : Byte)
  | pushA
  | pushB
  | pushC
  | pushD
  | popA
  | popB
  | popC
  | popD
  | pushBp
  | pushSi
  | pushDi
  | popBp
  | popSi
  | popDi
  | pushf
  | popf
  | jmp (i16 : Word)
  | jz (i16 : Word)
  | jnz (i16 : Word)
  | jc (i16 : Word)
  | jnc (i16 : Word)
  | jv (i16 : Word)
  | jnv (i16 : Word)
  | call (i16 : Word)
  | ret
  | addAB
  | addAC
  | addAD
  | addBC
  | addBD
  | addCD
  | adcAB
  | adcAC
  | adcAD
  | adcBC
  | adcBD
  | adcCD
  | subAB
  | subAC
  | subAD
  | subBC
  | subBD
  | subCD
  | sbbAB
  | sbbAC
  | sbbAD
  | sbbBC
  | sbbBD
  | sbbCD
  | andAB
  | andAC
  | andAD
  | andBC
  | andBD
  | andCD
  | orAB
  | orAC
  | orAD
  | orBC
  | orBD
  | orCD
  | xorAB
  | xorAC
  | xorAD
  | xorBC
  | xorBD
  | xorCD
  | cmpAB
  | cmpAC
  | cmpAD
  | cmpBC
  | cmpBD
  | cmpCD
  | addAImm (i8 : Byte)
  | addBImm (i8 : Byte)
  | addCImm (i8 : Byte)
  | addDImm (i8 : Byte)
  | adcAImm (i8 : Byte)
  | adcBImm (i8 : Byte)
  | adcCImm (i8 : Byte)
  | adcDImm (i8 : Byte)
  | subAImm (i8 : Byte)
  | subBImm (i8 : Byte)
  | subCImm (i8 : Byte)
  | subDImm (i8 : Byte)
  | sbbAImm (i8 : Byte)
  | sbbBImm (i8 : Byte)
  | sbbCImm (i8 : Byte)
  | sbbDImm (i8 : Byte)
  | andAImm (i8 : Byte)
  | andBImm (i8 : Byte)
  | andCImm (i8 : Byte)
  | andDImm (i8 : Byte)
  | orAImm (i8 : Byte)
  | orBImm (i8 : Byte)
  | orCImm (i8 : Byte)
  | orDImm (i8 : Byte)
  | xorAImm (i8 : Byte)
  | xorBImm (i8 : Byte)
  | xorCImm (i8 : Byte)
  | xorDImm (i8 : Byte)
  | cmpAImm (i8 : Byte)
  | cmpBImm (i8 : Byte)
  | cmpCImm (i8 : Byte)
  | cmpDImm (i8 : Byte)
  | notA
  | notB
  | notC
  | notD
  | shlA
  | shlB
  | shlC
  | shlD
  | shrA
  | shrB
  | shrC
  | shrD
  | clrA
  | clrB
  | clrC
  | clrD
  | incA
  | incB
  | incC
  | incD
  | decA
  | decB
  | decC
  | decD
  | inA0
  | inA1
  | inB0
  | inB1
  | inC0
  | inC1
  | inD0
  | inD1
  | out0A
  | out1A
  | out0B
  | out1B
  | out0C
  | out1C
  | out0D
  | out1D
  | hlt
deriving DecidableEq, Repr

end Sys2Proof
end

