-- ==== Sys2Proof/Machine/State.lean ====
section
/-! DEFINITION. The state of the machine as plain data (10_state.md), the faults and refusals a step can end in
(60_exceptions.md R400, 93_implementation_defined.md item 13), and the state after reset (10_state.md R50). -/

namespace Sys2Proof.Machine

open Sys2Proof

/-- The byte registers A, B, C, D, LHS, RHS, IR (10_state.md R22 to R25) and the address registers PC, SP, BP, SI, DI, TX,
MEMADDR (R26 to R28). RHS is the ALU's internal latch: it has no bus id and no step reads it (R24). -/
structure Regs where
  a : Byte
  b : Byte
  c : Byte
  d : Byte
  lhs : Byte
  rhs : Byte
  ir : Byte
  pc : Word
  sp : Word
  bp : Word
  si : Word
  di : Word
  tx : Word
  memaddr : Word
deriving DecidableEq, Repr

/-- The processor flags (10_state.md R29): zero, carry, overflow. Bits 7..3 of the flags byte always read 0, so no field
holds them. -/
structure Flags where
  z : Bool
  c : Bool
  v : Bool
deriving DecidableEq, Repr

/-- The bus bytes and the fields of the current transaction (10_state.md R40, R41). In an IO transaction the channel side
holds the channel number as the component with that 4-bit id. -/
structure Bus where
  data : Byte
  addr : Byte
  get : CompId
  put : CompId
  kind : Kind
  opflags : OpFlags
  done : Bool
deriving DecidableEq, Repr

/-- The control lines of the bus (10_state.md R42): `halt`; the inert `suspend` and `nmi`; the opaque run mode. -/
structure Lines where
  halt : Bool
  suspend : Bool
  nmi : Bool
  runMode : Nat
deriving DecidableEq, Repr

/-- A memory bank's place and writable flag (20_memory.md R61). Its bytes are the cells of `Memory` it covers. -/
structure Bank where
  start : Nat
  size : Nat
  writable : Bool
deriving DecidableEq, Repr

/-- Memory (10_state.md R45): the banks, ordered by start address, and the bytes that differ from 0x00, addresses strictly
rising. A mapped address that is not listed holds `Config.unlistedByte` (20_memory.md R67). The canonical form is
`Memory.wf` of Machine/Ops.lean. -/
structure Memory where
  banks : List Bank
  cells : List Host.Cell
deriving DecidableEq, Repr

/-- The direction of an installed I/O channel (47_io_system.md R374). -/
inductive Direction where
  | input | output
deriving DecidableEq, Repr

/-- The I/O side (10_state.md R46): which of the 16 channel ids is installed and in which direction, the bytes each host
source has still to supply (47_io_system.md R375), and the bytes each host sink has received, oldest first (R376). -/
structure Io where
  channels : Vector (Option Direction) 16
  input : Vector (List Byte) 16
  output : Vector (List Byte) 16
deriving DecidableEq, Repr

/-- Where the controller stands between two cycles (10_state.md R43): before the first opcode-fetch cycle (index 0, also the
place between two instructions), before the second (index 1), or inside an instruction with its decoded entry and the index
of its next cycle in the instruction's cycle list. -/
inductive Control where
  | fetchOpcode1
  | fetchOpcode2
  | running (entry : Entry) (index : Nat)
deriving DecidableEq, Repr

/-- What the host is told (10_state.md R47, 42_controller.md R262): value-changed notifications, input-read and
output-written notifications, and the mnemonic of each retired instruction. -/
inductive Event where
  | byteChanged (r : ByteReg) (v : Byte)
  | wordChanged (r : AddrReg) (v : Word)
  | inputRead (channel : Fin 16) (v : Byte)
  | outputWritten (channel : Fin 16) (v : Byte)
  | retired (mnemonic : String)
deriving DecidableEq, Repr

/-- The state of the machine. `count` is the cycle counter of the current run (10_state.md R43); `events` is the history of
what the host was told, newest first, which no rule reads (R47, log 9); `table` is the microcode table parameter
(30_encoding.md R100), which no step changes. -/
structure State where
  regs : Regs
  flags : Flags
  bus : Bus
  lines : Lines
  mem : Memory
  io : Io
  table : MicrocodeTable
  control : Control
  count : Nat
  events : List Event
deriving DecidableEq, Repr

/-- The errors that end a step (60_exceptions.md R400, R402). Each carries the exact state the error left: the effects of
the completed cycles and phases stand, and the controller is back between instructions (log 2). All are safe: the spec gives
each error, its cause and the state it leaves. -/
inductive Fault where
  /-- Raised by an IO step whose channel is not installed or has the wrong direction (40_bus_transactions.md R168): IN and
  OUT of the default table, and IO steps of a host table. Safe. -/
  | invalidComponentID (left : State)
  /-- Raised by a memory read at an unmapped address and by a memory write at an unmapped or read-only address (20_memory.md
  R68, R69): the fetch of any instruction, and every load, store and stack access. Safe. -/
  | protectedMemory (left : State)
  /-- Raised after the opcode fetch of an opcode with no table entry (42_controller.md R241). Safe. -/
  | invalidInstruction (left : State)
  /-- Raised after the opcode fetch of an opcode whose entry is not well formed (42_controller.md R241; host tables only),
  and by a step with no defined effect (41_alu.md R198, 40_bus_transactions.md R173). Safe. -/
  | invalidMicroCode (left : State)
deriving DecidableEq, Repr

/-- What the model declines to run. -/
inductive Refusal where
  /-- Raised by an arm of `exec` that has no meaning yet (none at present). Safe: nothing is claimed of the instruction. -/
  | notModelled (mnemonic : String)
  /-- Raised by an IOIN step on an installed input channel when the host has no byte left for it: the spec asks the model to
  refuse and not to invent a byte (93_implementation_defined.md item 13, log 10). Safe. -/
  | inputExhausted (channel : Fin 16)
deriving DecidableEq, Repr

/-- The registers after reset (10_state.md R50). -/
def Regs.reset : Regs :=
  { a := 0, b := 0, c := 0, d := 0, lhs := 0, rhs := 0, ir := 0,
    pc := 0, sp := 0, bp := 0, si := 0, di := 0, tx := 0, memaddr := 0 }

/-- The flags after reset (10_state.md R50). -/
def Flags.reset : Flags := { z := false, c := false, v := false }

/-- The bus after reset (10_state.md R50). -/
def Bus.reset : Bus :=
  { data := 0, addr := 0, get := .none, put := .none, kind := .other, opflags := 0#4, done := false }

/-- The memory before the host adds a bank: no bank, so every address is unmapped and the first opcode fetch raises
ProtectedMemory (70_reset_and_hazards.md R443). Reset itself leaves memory unchanged (10_state.md R50). DEDUCED, log 4, safe. -/
def Memory.powerOn : Memory := { banks := [], cells := [] }

/-- The I/O side before the host installs a channel (70_reset_and_hazards.md R443): no channel (DEDUCED, log 5), no input byte,
no output byte (DESIGN CHOICE, log 5, unsafe). Reset itself leaves it unchanged (10_state.md R50). -/
def Io.powerOn : Io :=
  { channels := Vector.replicate 16 none, input := Vector.replicate 16 [], output := Vector.replicate 16 [] }

/-- The machine right after reset (10_state.md R50, 70_reset_and_hazards.md R440), with the host-owned parameters at their
power-on values (log 4, 5, 6, 8). No program is in it (log 7). -/
def State.reset : State :=
  { regs := Regs.reset
    flags := Flags.reset
    bus := Bus.reset
    lines := { halt := false, suspend := false, nmi := false, runMode := Config.powerOnRunMode }
    mem := Memory.powerOn
    io := Io.powerOn
    table := .default
    control := .fetchOpcode1
    count := 0
    events := [] }

end Sys2Proof.Machine
end

