-- ==== Sys2Proof/Machine/Flags.lean ====
section
/-! DEFINITION. The ALU: operation codes, the 9-bit raw results, the flags Z, C and V, and the flags byte (41_alu.md,
10_state.md R29). -/

namespace Sys2Proof

/-- The operation a 4-bit opflags value selects (41_alu.md R181). -/
def AluOp.ofCode (f : OpFlags) : AluOp :=
  match f.toNat with
  | 0x0 => .add
  | 0x1 => .adc
  | 0x2 => .sub
  | 0x3 => .sbb
  | 0x4 => .and
  | 0x5 => .or
  | 0x6 => .xor
  | 0x7 => .not
  | 0x8 => .shl
  | 0x9 => .shr
  | 0xA => .clr
  | 0xB => .cmp
  | 0xC => .inc
  | 0xD => .dec
  | 0xE => .wadd
  | _ => .wsub

/-- The 4-bit code of an operation (41_alu.md R181). -/
def AluOp.code : AluOp → OpFlags
  | .add => 0x0#4
  | .adc => 0x1#4
  | .sub => 0x2#4
  | .sbb => 0x3#4
  | .and => 0x4#4
  | .or => 0x5#4
  | .xor => 0x6#4
  | .not => 0x7#4
  | .shl => 0x8#4
  | .shr => 0x9#4
  | .clr => 0xA#4
  | .cmp => 0xB#4
  | .inc => 0xC#4
  | .dec => 0xD#4
  | .wadd => 0xE#4
  | .wsub => 0xF#4

/-- The operations that write V (41_alu.md R199). -/
def AluOp.writesV : AluOp → Bool
  | .add | .adc | .sub | .sbb => true
  | _ => false

namespace Machine

/-- A byte as a 9-bit value. -/
def raw9 (b : Byte) : BitVec 9 := b.setWidth 9

/-- The carry in as a 9-bit value. -/
def carry9 (cin : Bool) : BitVec 9 := if cin then 1 else 0

/-- The 9-bit raw result of an operation on the left operand, the right operand and the carry in (41_alu.md R184 to R197);
subtraction is modulo 2^9, so bit 8 is the borrow (R183). None for WADD and WSUB, which have no semantics (R198). -/
def aluRaw (op : AluOp) (l r : Byte) (cin : Bool) : Option (BitVec 9) :=
  match op with
  | .add => some (raw9 l + raw9 r)
  | .adc => some (raw9 l + raw9 r + carry9 cin)
  | .sub => some (raw9 l - raw9 r)
  | .sbb => some (raw9 l - raw9 r - carry9 cin)
  | .and => some (raw9 (l &&& r))
  | .or => some (raw9 (l ||| r))
  | .xor => some (raw9 (l ^^^ r))
  | .not => some (raw9 (~~~r))
  | .shl => some (raw9 r <<< 1)
  | .shr => some (raw9 (r >>> 1))
  | .clr => some 0
  | .cmp => some (raw9 l - raw9 r)
  | .inc => some (raw9 r + 1)
  | .dec => some (raw9 r - 1)
  | .wadd => none
  | .wsub => none

/-- The result byte, the low 8 bits of the raw result (41_alu.md R182). -/
def aluResult (raw : BitVec 9) : Byte := raw.setWidth 8

/-- The overflow formulas of 41_alu.md R199, on the sign bits of the operands and the result. -/
def overflow (op : AluOp) (l r res : Byte) : Bool :=
  match op with
  | .add | .adc => !(l.msb ^^ r.msb) && (res.msb ^^ l.msb)
  | _ => (l.msb ^^ r.msb) && (res.msb ^^ l.msb)

/-- The flags an operation leaves (41_alu.md R182, R183, R199): Z from the 8-bit result, C the ninth bit of the raw result,
V only for ADD, ADC, SUB and SBB. -/
def aluFlags (op : AluOp) (l r : Byte) (raw : BitVec 9) (old : Flags) : Flags :=
  { z := aluResult raw == 0
    c := raw.getLsbD 8
    v := if op.writesV then overflow op l r (aluResult raw) else old.v }

/-- The flags byte: Z bit 0, C bit 1, V bit 2, bits 7..3 zero (10_state.md R29). -/
def flagsByte (f : Flags) : Byte :=
  (if f.z then 0x01#8 else 0) ||| (if f.c then 0x02#8 else 0) ||| (if f.v then 0x04#8 else 0)

/-- The flags a byte imports: bits 0, 1 and 2; the others are dropped (40_bus_transactions.md R165). -/
def flagsOfByte (b : Byte) : Flags := { z := b.getLsbD 0, c := b.getLsbD 1, v := b.getLsbD 2 }

/-- The branch test (30_encoding.md R101, 42_controller.md R238). -/
def taken (c : Cond) (f : Flags) : Bool :=
  match c.op with
  | .and => (flagsByte f &&& c.mask) != 0
  | .nand => (flagsByte f &&& c.mask) == 0

end Machine

end Sys2Proof
end

