-- ==== Sys2Proof/Decode.lean ====
section
/-! DEFINITION. The instruction encoding: byte order of operands (30_encoding.md R93), the decoder over the default opcode
map (R120), total on any bytes and refusing by name (R92, R94), and the encoder (R121). -/

namespace Sys2Proof

/-- The low byte of a word, `lo8` of 00_scope.md R8. -/
def lo8 (w : Word) : Byte := w.setWidth 8

/-- The high byte of a word, `hi8` of 00_scope.md R8. -/
def hi8 (w : Word) : Byte := (w >>> 8).setWidth 8

/-- The word `hi:lo` with value hi*256 + lo (00_scope.md R8). -/
def word (hi lo : Byte) : Word := hi ++ lo

/-- What an opcode byte selects: an instruction with no operand byte, with one, with a word (two bytes, low byte first), or
nothing (unassigned, R94). -/
inductive OpcodeForm where
  | plain (i : Instr)
  | byteOperand (mk : Byte → Instr)
  | wordOperand (mk : Word → Instr)
  | unassigned

/-- Why bytes decode to no instruction. -/
inductive DecodeError where
  /-- No byte at all. -/
  | noBytes
  /-- The opcode is unassigned: InvalidInstruction when fetched (30_encoding.md R94). -/
  | unassigned (opcode : Byte)
  /-- Operand bytes are missing after the opcode. -/
  | truncated (opcode : Byte)
deriving DecidableEq, Repr

/-- Row 0_ of the default opcode map (30_encoding.md R120). -/
def opcodeRow0 : List OpcodeForm :=
  [.plain .nop, .byteOperand .movAImm, .byteOperand .movBImm, .byteOperand .movCImm,
   .byteOperand .movDImm, .wordOperand .movAMem, .wordOperand .movBMem, .wordOperand .movCMem,
   .wordOperand .movDMem, .wordOperand .movMemA, .wordOperand .movMemB, .wordOperand .movMemC,
   .wordOperand .movMemD, .plain .movAB, .plain .movAC, .plain .movAD]

/-- Row 1_ of the default opcode map (30_encoding.md R120). -/
def opcodeRow1 : List OpcodeForm :=
  [.plain .movBA, .plain .movBC, .plain .movBD, .plain .movCA,
   .plain .movCB, .plain .movCD, .plain .movDA, .plain .movDB,
   .plain .movDC, .wordOperand .movSpImm, .wordOperand .movBpImm, .wordOperand .movSiImm,
   .wordOperand .movDiImm, .wordOperand .movSpMem, .wordOperand .movBpMem, .wordOperand .movSiMem]

/-- Row 2_ of the default opcode map (30_encoding.md R120). -/
def opcodeRow2 : List OpcodeForm :=
  [.wordOperand .movDiMem, .wordOperand .movMemSp, .wordOperand .movMemBp, .wordOperand .movMemSi,
   .wordOperand .movMemDi, .plain .movSpBp, .plain .movSpSi, .plain .movSpDi,
   .plain .movBpSp, .plain .movBpSi, .plain .movBpDi, .plain .movSiSp,
   .plain .movSiBp, .plain .movSiDi, .plain .movDiSp, .plain .movDiBp]

/-- Row 3_ of the default opcode map (30_encoding.md R120). -/
def opcodeRow3 : List OpcodeForm :=
  [.plain .movDiSi, .byteOperand .movABpIdx, .byteOperand .movASiIdx, .byteOperand .movADiIdx,
   .byteOperand .movBBpIdx, .byteOperand .movBSiIdx, .byteOperand .movBDiIdx, .byteOperand .movCBpIdx,
   .byteOperand .movCSiIdx, .byteOperand .movCDiIdx, .byteOperand .movDBpIdx, .byteOperand .movDSiIdx,
   .byteOperand .movDDiIdx, .byteOperand .movBpIdxA, .byteOperand .movSiIdxA, .byteOperand .movDiIdxA]

/-- Row 4_ of the default opcode map (30_encoding.md R120). -/
def opcodeRow4 : List OpcodeForm :=
  [.byteOperand .movBpIdxB, .byteOperand .movSiIdxB, .byteOperand .movDiIdxB, .byteOperand .movBpIdxC,
   .byteOperand .movSiIdxC, .byteOperand .movDiIdxC, .byteOperand .movBpIdxD, .byteOperand .movSiIdxD,
   .byteOperand .movDiIdxD, .byteOperand .movSiBpIdx, .byteOperand .movDiBpIdx, .byteOperand .movBpIdxSi,
   .byteOperand .movBpIdxDi, .unassigned, .unassigned, .unassigned]

/-- Row 5_ of the default opcode map (30_encoding.md R120). -/
def opcodeRow5 : List OpcodeForm :=
  [.plain .pushA, .plain .pushB, .plain .pushC, .plain .pushD,
   .plain .popA, .plain .popB, .plain .popC, .plain .popD,
   .plain .pushBp, .plain .pushSi, .plain .pushDi, .plain .popBp,
   .plain .popSi, .plain .popDi, .plain .pushf, .plain .popf]

/-- Row 6_ of the default opcode map (30_encoding.md R120). -/
def opcodeRow6 : List OpcodeForm :=
  [.wordOperand .jmp, .wordOperand .jz, .wordOperand .jnz, .wordOperand .jc,
   .wordOperand .jnc, .wordOperand .jv, .wordOperand .jnv, .wordOperand .call,
   .plain .ret, .unassigned, .unassigned, .unassigned,
   .unassigned, .unassigned, .unassigned, .unassigned]

/-- Row 7_ of the default opcode map (30_encoding.md R120). -/
def opcodeRow7 : List OpcodeForm :=
  [.plain .addAB, .plain .addAC, .plain .addAD, .plain .addBC,
   .plain .addBD, .plain .addCD, .plain .adcAB, .plain .adcAC,
   .plain .adcAD, .plain .adcBC, .plain .adcBD, .plain .adcCD,
   .plain .subAB, .plain .subAC, .plain .subAD, .plain .subBC]

/-- Row 8_ of the default opcode map (30_encoding.md R120). -/
def opcodeRow8 : List OpcodeForm :=
  [.plain .subBD, .plain .subCD, .plain .sbbAB, .plain .sbbAC,
   .plain .sbbAD, .plain .sbbBC, .plain .sbbBD, .plain .sbbCD,
   .plain .andAB, .plain .andAC, .plain .andAD, .plain .andBC,
   .plain .andBD, .plain .andCD, .plain .orAB, .plain .orAC]

/-- Row 9_ of the default opcode map (30_encoding.md R120). -/
def opcodeRow9 : List OpcodeForm :=
  [.plain .orAD, .plain .orBC, .plain .orBD, .plain .orCD,
   .plain .xorAB, .plain .xorAC, .plain .xorAD, .plain .xorBC,
   .plain .xorBD, .plain .xorCD, .plain .cmpAB, .plain .cmpAC,
   .plain .cmpAD, .plain .cmpBC, .plain .cmpBD, .plain .cmpCD]

/-- Row A_ of the default opcode map (30_encoding.md R120). -/
def opcodeRowA : List OpcodeForm :=
  [.byteOperand .addAImm, .byteOperand .addBImm, .byteOperand .addCImm, .byteOperand .addDImm,
   .byteOperand .adcAImm, .byteOperand .adcBImm, .byteOperand .adcCImm, .byteOperand .adcDImm,
   .byteOperand .subAImm, .byteOperand .subBImm, .byteOperand .subCImm, .byteOperand .subDImm,
   .byteOperand .sbbAImm, .byteOperand .sbbBImm, .byteOperand .sbbCImm, .byteOperand .sbbDImm]

/-- Row B_ of the default opcode map (30_encoding.md R120). -/
def opcodeRowB : List OpcodeForm :=
  [.byteOperand .andAImm, .byteOperand .andBImm, .byteOperand .andCImm, .byteOperand .andDImm,
   .byteOperand .orAImm, .byteOperand .orBImm, .byteOperand .orCImm, .byteOperand .orDImm,
   .byteOperand .xorAImm, .byteOperand .xorBImm, .byteOperand .xorCImm, .byteOperand .xorDImm,
   .byteOperand .cmpAImm, .byteOperand .cmpBImm, .byteOperand .cmpCImm, .byteOperand .cmpDImm]

/-- Row C_ of the default opcode map (30_encoding.md R120). -/
def opcodeRowC : List OpcodeForm :=
  [.plain .notA, .plain .notB, .plain .notC, .plain .notD,
   .plain .shlA, .plain .shlB, .plain .shlC, .plain .shlD,
   .plain .shrA, .plain .shrB, .plain .shrC, .plain .shrD,
   .plain .clrA, .plain .clrB, .plain .clrC, .plain .clrD]

/-- Row D_ of the default opcode map (30_encoding.md R120). -/
def opcodeRowD : List OpcodeForm :=
  [.plain .incA, .plain .incB, .plain .incC, .plain .incD,
   .plain .decA, .plain .decB, .plain .decC, .plain .decD,
   .unassigned, .unassigned, .unassigned, .unassigned,
   .unassigned, .unassigned, .unassigned, .unassigned]

/-- Row E_ of the default opcode map (30_encoding.md R120). -/
def opcodeRowE : List OpcodeForm :=
  [.plain .inA0, .plain .inA1, .plain .inB0, .plain .inB1,
   .plain .inC0, .plain .inC1, .plain .inD0, .plain .inD1,
   .plain .out0A, .plain .out1A, .plain .out0B, .plain .out1B,
   .plain .out0C, .plain .out1C, .plain .out0D, .plain .out1D]

/-- Row F_ of the default opcode map (30_encoding.md R120). -/
def opcodeRowF : List OpcodeForm :=
  [.unassigned, .unassigned, .unassigned, .unassigned,
   .unassigned, .unassigned, .unassigned, .unassigned,
   .unassigned, .unassigned, .unassigned, .unassigned,
   .unassigned, .unassigned, .unassigned, .plain .hlt]

/-- The row of a high nibble. -/
def opcodeRow : Nat → List OpcodeForm
  | 0 => opcodeRow0
  | 1 => opcodeRow1
  | 2 => opcodeRow2
  | 3 => opcodeRow3
  | 4 => opcodeRow4
  | 5 => opcodeRow5
  | 6 => opcodeRow6
  | 7 => opcodeRow7
  | 8 => opcodeRow8
  | 9 => opcodeRow9
  | 10 => opcodeRowA
  | 11 => opcodeRowB
  | 12 => opcodeRowC
  | 13 => opcodeRowD
  | 14 => opcodeRowE
  | 15 => opcodeRowF
  | _ => []

/-- What the opcode byte selects in the default map (30_encoding.md R120): row by high nibble, column by low nibble. -/
def opcodeForm (op : Byte) : OpcodeForm :=
  ((opcodeRow (op.toNat / 16))[op.toNat % 16]?).getD .unassigned

/-- Decode one instruction from the front of a byte stream and give the rest of the stream (30_encoding.md R90, R92, R93).
Total: every byte list gives an instruction or a named refusal. -/
def decode : List Byte → Except DecodeError (Instr × List Byte)
  | [] => .error .noBytes
  | op :: rest =>
    match opcodeForm op, rest with
    | .plain i, _ => .ok (i, rest)
    | .byteOperand mk, b :: rest' => .ok (mk b, rest')
    | .wordOperand mk, lo :: hi :: rest' => .ok (mk (word hi lo), rest')
    | .unassigned, _ => .error (.unassigned op)
    | _, _ => .error (.truncated op)

/-- The bytes of an instruction, lowest address first (30_encoding.md R121, R93). -/
def encode : Instr → List Byte
  | .nop => [0x00#8]
  | .movAImm x => [0x01#8, x]
  | .movBImm x => [0x02#8, x]
  | .movCImm x => [0x03#8, x]
  | .movDImm x => [0x04#8, x]
  | .movAMem w => [0x05#8, lo8 w, hi8 w]
  | .movBMem w => [0x06#8, lo8 w, hi8 w]
  | .movCMem w => [0x07#8, lo8 w, hi8 w]
  | .movDMem w => [0x08#8, lo8 w, hi8 w]
  | .movMemA w => [0x09#8, lo8 w, hi8 w]
  | .movMemB w => [0x0A#8, lo8 w, hi8 w]
  | .movMemC w => [0x0B#8, lo8 w, hi8 w]
  | .movMemD w => [0x0C#8, lo8 w, hi8 w]
  | .movAB => [0x0D#8]
  | .movAC => [0x0E#8]
  | .movAD => [0x0F#8]
  | .movBA => [0x10#8]
  | .movBC => [0x11#8]
  | .movBD => [0x12#8]
  | .movCA => [0x13#8]
  | .movCB => [0x14#8]
  | .movCD => [0x15#8]
  | .movDA => [0x16#8]
  | .movDB => [0x17#8]
  | .movDC => [0x18#8]
  | .movSpImm w => [0x19#8, lo8 w, hi8 w]
  | .movBpImm w => [0x1A#8, lo8 w, hi8 w]
  | .movSiImm w => [0x1B#8, lo8 w, hi8 w]
  | .movDiImm w => [0x1C#8, lo8 w, hi8 w]
  | .movSpMem w => [0x1D#8, lo8 w, hi8 w]
  | .movBpMem w => [0x1E#8, lo8 w, hi8 w]
  | .movSiMem w => [0x1F#8, lo8 w, hi8 w]
  | .movDiMem w => [0x20#8, lo8 w, hi8 w]
  | .movMemSp w => [0x21#8, lo8 w, hi8 w]
  | .movMemBp w => [0x22#8, lo8 w, hi8 w]
  | .movMemSi w => [0x23#8, lo8 w, hi8 w]
  | .movMemDi w => [0x24#8, lo8 w, hi8 w]
  | .movSpBp => [0x25#8]
  | .movSpSi => [0x26#8]
  | .movSpDi => [0x27#8]
  | .movBpSp => [0x28#8]
  | .movBpSi => [0x29#8]
  | .movBpDi => [0x2A#8]
  | .movSiSp => [0x2B#8]
  | .movSiBp => [0x2C#8]
  | .movSiDi => [0x2D#8]
  | .movDiSp => [0x2E#8]
  | .movDiBp => [0x2F#8]
  | .movDiSi => [0x30#8]
  | .movABpIdx x => [0x31#8, x]
  | .movASiIdx x => [0x32#8, x]
  | .movADiIdx x => [0x33#8, x]
  | .movBBpIdx x => [0x34#8, x]
  | .movBSiIdx x => [0x35#8, x]
  | .movBDiIdx x => [0x36#8, x]
  | .movCBpIdx x => [0x37#8, x]
  | .movCSiIdx x => [0x38#8, x]
  | .movCDiIdx x => [0x39#8, x]
  | .movDBpIdx x => [0x3A#8, x]
  | .movDSiIdx x => [0x3B#8, x]
  | .movDDiIdx x => [0x3C#8, x]
  | .movBpIdxA x => [0x3D#8, x]
  | .movSiIdxA x => [0x3E#8, x]
  | .movDiIdxA x => [0x3F#8, x]
  | .movBpIdxB x => [0x40#8, x]
  | .movSiIdxB x => [0x41#8, x]
  | .movDiIdxB x => [0x42#8, x]
  | .movBpIdxC x => [0x43#8, x]
  | .movSiIdxC x => [0x44#8, x]
  | .movDiIdxC x => [0x45#8, x]
  | .movBpIdxD x => [0x46#8, x]
  | .movSiIdxD x => [0x47#8, x]
  | .movDiIdxD x => [0x48#8, x]
  | .movSiBpIdx x => [0x49#8, x]
  | .movDiBpIdx x => [0x4A#8, x]
  | .movBpIdxSi x => [0x4B#8, x]
  | .movBpIdxDi x => [0x4C#8, x]
  | .pushA => [0x50#8]
  | .pushB => [0x51#8]
  | .pushC => [0x52#8]
  | .pushD => [0x53#8]
  | .popA => [0x54#8]
  | .popB => [0x55#8]
  | .popC => [0x56#8]
  | .popD => [0x57#8]
  | .pushBp => [0x58#8]
  | .pushSi => [0x59#8]
  | .pushDi => [0x5A#8]
  | .popBp => [0x5B#8]
  | .popSi => [0x5C#8]
  | .popDi => [0x5D#8]
  | .pushf => [0x5E#8]
  | .popf => [0x5F#8]
  | .jmp w => [0x60#8, lo8 w, hi8 w]
  | .jz w => [0x61#8, lo8 w, hi8 w]
  | .jnz w => [0x62#8, lo8 w, hi8 w]
  | .jc w => [0x63#8, lo8 w, hi8 w]
  | .jnc w => [0x64#8, lo8 w, hi8 w]
  | .jv w => [0x65#8, lo8 w, hi8 w]
  | .jnv w => [0x66#8, lo8 w, hi8 w]
  | .call w => [0x67#8, lo8 w, hi8 w]
  | .ret => [0x68#8]
  | .addAB => [0x70#8]
  | .addAC => [0x71#8]
  | .addAD => [0x72#8]
  | .addBC => [0x73#8]
  | .addBD => [0x74#8]
  | .addCD => [0x75#8]
  | .adcAB => [0x76#8]
  | .adcAC => [0x77#8]
  | .adcAD => [0x78#8]
  | .adcBC => [0x79#8]
  | .adcBD => [0x7A#8]
  | .adcCD => [0x7B#8]
  | .subAB => [0x7C#8]
  | .subAC => [0x7D#8]
  | .subAD => [0x7E#8]
  | .subBC => [0x7F#8]
  | .subBD => [0x80#8]
  | .subCD => [0x81#8]
  | .sbbAB => [0x82#8]
  | .sbbAC => [0x83#8]
  | .sbbAD => [0x84#8]
  | .sbbBC => [0x85#8]
  | .sbbBD => [0x86#8]
  | .sbbCD => [0x87#8]
  | .andAB => [0x88#8]
  | .andAC => [0x89#8]
  | .andAD => [0x8A#8]
  | .andBC => [0x8B#8]
  | .andBD => [0x8C#8]
  | .andCD => [0x8D#8]
  | .orAB => [0x8E#8]
  | .orAC => [0x8F#8]
  | .orAD => [0x90#8]
  | .orBC => [0x91#8]
  | .orBD => [0x92#8]
  | .orCD => [0x93#8]
  | .xorAB => [0x94#8]
  | .xorAC => [0x95#8]
  | .xorAD => [0x96#8]
  | .xorBC => [0x97#8]
  | .xorBD => [0x98#8]
  | .xorCD => [0x99#8]
  | .cmpAB => [0x9A#8]
  | .cmpAC => [0x9B#8]
  | .cmpAD => [0x9C#8]
  | .cmpBC => [0x9D#8]
  | .cmpBD => [0x9E#8]
  | .cmpCD => [0x9F#8]
  | .addAImm x => [0xA0#8, x]
  | .addBImm x => [0xA1#8, x]
  | .addCImm x => [0xA2#8, x]
  | .addDImm x => [0xA3#8, x]
  | .adcAImm x => [0xA4#8, x]
  | .adcBImm x => [0xA5#8, x]
  | .adcCImm x => [0xA6#8, x]
  | .adcDImm x => [0xA7#8, x]
  | .subAImm x => [0xA8#8, x]
  | .subBImm x => [0xA9#8, x]
  | .subCImm x => [0xAA#8, x]
  | .subDImm x => [0xAB#8, x]
  | .sbbAImm x => [0xAC#8, x]
  | .sbbBImm x => [0xAD#8, x]
  | .sbbCImm x => [0xAE#8, x]
  | .sbbDImm x => [0xAF#8, x]
  | .andAImm x => [0xB0#8, x]
  | .andBImm x => [0xB1#8, x]
  | .andCImm x => [0xB2#8, x]
  | .andDImm x => [0xB3#8, x]
  | .orAImm x => [0xB4#8, x]
  | .orBImm x => [0xB5#8, x]
  | .orCImm x => [0xB6#8, x]
  | .orDImm x => [0xB7#8, x]
  | .xorAImm x => [0xB8#8, x]
  | .xorBImm x => [0xB9#8, x]
  | .xorCImm x => [0xBA#8, x]
  | .xorDImm x => [0xBB#8, x]
  | .cmpAImm x => [0xBC#8, x]
  | .cmpBImm x => [0xBD#8, x]
  | .cmpCImm x => [0xBE#8, x]
  | .cmpDImm x => [0xBF#8, x]
  | .notA => [0xC0#8]
  | .notB => [0xC1#8]
  | .notC => [0xC2#8]
  | .notD => [0xC3#8]
  | .shlA => [0xC4#8]
  | .shlB => [0xC5#8]
  | .shlC => [0xC6#8]
  | .shlD => [0xC7#8]
  | .shrA => [0xC8#8]
  | .shrB => [0xC9#8]
  | .shrC => [0xCA#8]
  | .shrD => [0xCB#8]
  | .clrA => [0xCC#8]
  | .clrB => [0xCD#8]
  | .clrC => [0xCE#8]
  | .clrD => [0xCF#8]
  | .incA => [0xD0#8]
  | .incB => [0xD1#8]
  | .incC => [0xD2#8]
  | .incD => [0xD3#8]
  | .decA => [0xD4#8]
  | .decB => [0xD5#8]
  | .decC => [0xD6#8]
  | .decD => [0xD7#8]
  | .inA0 => [0xE0#8]
  | .inA1 => [0xE1#8]
  | .inB0 => [0xE2#8]
  | .inB1 => [0xE3#8]
  | .inC0 => [0xE4#8]
  | .inC1 => [0xE5#8]
  | .inD0 => [0xE6#8]
  | .inD1 => [0xE7#8]
  | .out0A => [0xE8#8]
  | .out1A => [0xE9#8]
  | .out0B => [0xEA#8]
  | .out1B => [0xEB#8]
  | .out0C => [0xEC#8]
  | .out1C => [0xED#8]
  | .out0D => [0xEE#8]
  | .out1D => [0xEF#8]
  | .hlt => [0xFF#8]

/-- The opcode byte of an instruction. -/
def Instr.opcode (i : Instr) : Byte := (encode i).headD 0

/-- The three bytes of an instruction whose bits are `w`, bit 0 the least significant bit of the first byte; bits at or
above `nbits` are 0. Three bytes is the longest instruction (30_encoding.md R91). -/
def tableBytes (nbits w : Nat) : List Byte :=
  [BitVec.ofNat 8 (w % 2 ^ nbits), BitVec.ofNat 8 (w % 2 ^ nbits / 2 ^ 8), BitVec.ofNat 8 (w % 2 ^ nbits / 2 ^ 16)]

/-- The instruction the decoder reads from an instruction whose bits are `w`, numbered as spec/opcode_table.json numbers
them; none where it refuses. -/
def decodeTableWord (nbits w : Nat) : Option Instr :=
  match decode (tableBytes nbits w) with
  | .ok (i, _) => some i
  | .error _ => none

end Sys2Proof
end

