-- ==== Sys2Proof/WellFormed.lean ====
section
/-! DEFINITION. Well-formedness of microcode steps (30_encoding.md R105) and entries (R106), one Bool for each named check.
An instruction as syntax has no check of its own: the types of its operands admit exactly the values the encoding does
(R95), and its entry in the default table is well formed (Laws/PerInstr.lean). -/

namespace Sys2Proof

/-- The component is a byte register (BREG, 10_state.md R21). -/
def CompId.isByte : CompId → Bool
  | .byte _ => true
  | _ => false

/-- The component is an address register (AREG, 10_state.md R21). -/
def CompId.isAddr : CompId → Bool
  | .addr _ => true
  | _ => false

/-- BREG ∪ AREG ∪ {MEM}: the components that carry a byte in an XDATA or IO step. -/
def CompId.isData (c : CompId) : Bool := c.isByte || c.isAddr || c == .mem

/-- `wf_other` of R105. -/
def Step.wfOther (s : Step) : Bool :=
  s.kind != .other || (s.get == .none && s.put == .none && (s.opflags == 0 || s.opflags == OpFlags.halt))

/-- `wf_ends` of R105. -/
def Step.wfEnds (s : Step) : Bool :=
  !(s.kind == .xdata || s.kind == .xaddr) || (s.get != .none && s.put != .none && s.get != s.put)

/-- `wf_xdata_get` of R105. -/
def Step.wfXdataGet (s : Step) : Bool := s.kind != .xdata || s.get.isData

/-- `wf_xdata_put` of R105. -/
def Step.wfXdataPut (s : Step) : Bool := s.kind != .xdata || s.put.isData || s.put == .alu

/-- `wf_alu_op` of R105: the codes 0xE and 0xF have no defined operation. -/
def Step.wfAluOp (s : Step) : Bool := !(s.kind == .xdata && s.put == .alu) || decide (s.opflags.toNat ≤ 0xD)

/-- `wf_adjust` of R105. -/
def Step.wfAdjust (s : Step) : Bool :=
  !(s.kind == .xdata && s.put != .alu) ||
    (!(s.opflags.hasInc && s.opflags.hasDec)
      && (!s.opflags.hasIdx || (s.put.isAddr && !s.opflags.hasMsb))
      && (!s.opflags.hasMsb || s.get.isAddr || s.put.isAddr)
      && (!(s.opflags.hasInc || s.opflags.hasDec)
        || s.get == .mem || s.put == .mem || s.get.isAddr || s.put.isAddr))

/-- `wf_xaddr_regs` of R105. -/
def Step.wfXaddrRegs (s : Step) : Bool :=
  !(s.kind == .xaddr && s.get != .alu && s.put != .alu) ||
    (s.get.isAddr && s.put.isAddr && (s.opflags == 0 || s.opflags == OpFlags.inc || s.opflags == OpFlags.dec))

/-- `wf_xaddr_flags` of R105: the other side of the flags port is a byte or an address register. -/
def Step.wfXaddrFlags (s : Step) : Bool :=
  !(s.kind == .xaddr && (s.get == .alu || s.put == .alu)) ||
    (s.opflags == OpFlags.flags
      && (s.get == .alu || s.get.isByte || s.get.isAddr)
      && (s.put == .alu || s.put.isByte || s.put.isAddr))

/-- `wf_io` of R105. -/
def Step.wfIo (s : Step) : Bool :=
  s.kind != .io ||
    ((s.opflags == OpFlags.ioIn && s.put.isData) || (s.opflags == OpFlags.ioOut && s.get.isData))

/-- A step is well formed iff every check of R105 holds. -/
def Step.wellFormed (s : Step) : Bool :=
  s.wfOther && s.wfEnds && s.wfXdataGet && s.wfXdataPut && s.wfAluOp && s.wfAdjust && s.wfXaddrRegs
    && s.wfXaddrFlags && s.wfIo

/-- `ew_done` of R106: no step, or `done` on the last step and on no other. -/
def Entry.ewDone (e : Entry) : Bool :=
  e.steps.isEmpty || ((e.steps.getLast?.any Step.done) && e.steps.dropLast.all fun s => !s.done)

/-- `ew_subject` of R106. -/
def Entry.ewSubject (e : Entry) : Bool :=
  match e.mode, e.subject with
  | .implied, subj => subj.isNone
  | .immediateByte, some c | .indirectByte, some c => c.isByte || (c.isAddr && c != .addr .memaddr)
  | .immediateWord, some c | .indirectWord, some c => c.isAddr && c != .addr .memaddr
  | .indexedByte, some c | .indexedWord, some c =>
    c == .addr .pc || c == .addr .sp || c == .addr .bp || c == .addr .si || c == .addr .di
  | _, none => false

/-- `ew_pc_subject` of R106. -/
def Entry.ewPcSubject (e : Entry) : Bool :=
  e.subject != some (.addr .pc) || e.mode == .immediateWord || e.mode == .indexedByte || e.mode == .indexedWord

/-- `ew_steps_required` of R106. -/
def Entry.ewStepsRequired (e : Entry) : Bool :=
  !e.steps.isEmpty || e.mode == .implied ||
    ((e.mode == .immediateByte || e.mode == .immediateWord || e.mode == .indirectByte || e.mode == .indirectWord)
      && e.subject.isSome)

/-- `ew_cond` of R106. -/
def Entry.ewCond (e : Entry) : Bool :=
  match e.cond with
  | none => true
  | some c =>
    (e.steps.getLast?.any fun s => s.kind == .xaddr && s.put == .addr .pc) && c.mask != 0 && (c.mask &&& 0xF8#8) == 0

/-- `ew_msb` of R106. -/
def Entry.ewMsb (e : Entry) : Bool :=
  !e.msbFirst || e.mode == .immediateWord || e.mode == .indirectByte || e.mode == .indirectWord

/-- An entry is well formed iff every step is (R105) and every check of R106 holds. -/
def Entry.wellFormed (e : Entry) : Bool :=
  e.steps.all Step.wellFormed && e.ewDone && e.ewSubject && e.ewPcSubject && e.ewStepsRequired && e.ewCond && e.ewMsb

end Sys2Proof
end

