-- ==== Sys2Proof/Machine/Operands.lean ====
section
/-! DEFINITION. Operands: the component ids (10_state.md R20), register access by name, byte selection and 16-bit address
arithmetic (40_bus_transactions.md R149 to R153), and the operand-fetch cycles of each addressing mode (42_controller.md
R226 to R234). -/

namespace Sys2Proof

/-- The 4-bit id of a component (10_state.md R20). -/
def CompId.code : CompId → BitVec 4
  | .byte .a => 0x0#4
  | .byte .b => 0x1#4
  | .byte .c => 0x2#4
  | .byte .d => 0x3#4
  | .byte .lhs => 0x4#4
  | .alu => 0x5#4
  | .none => 0x6#4
  | .byte .ir => 0x7#4
  | .addr .pc => 0x8#4
  | .addr .sp => 0x9#4
  | .addr .bp => 0xA#4
  | .addr .si => 0xB#4
  | .addr .di => 0xC#4
  | .addr .tx => 0xD#4
  | .addr .memaddr => 0xE#4
  | .mem => 0xF#4

/-- The component with a 4-bit id (10_state.md R20); every id has one, 0x6 being NONE. -/
def CompId.ofCode (x : BitVec 4) : CompId :=
  match x.toNat with
  | 0x0 => .byte .a
  | 0x1 => .byte .b
  | 0x2 => .byte .c
  | 0x3 => .byte .d
  | 0x4 => .byte .lhs
  | 0x5 => .alu
  | 0x6 => .none
  | 0x7 => .byte .ir
  | 0x8 => .addr .pc
  | 0x9 => .addr .sp
  | 0xA => .addr .bp
  | 0xB => .addr .si
  | 0xC => .addr .di
  | 0xD => .addr .tx
  | 0xE => .addr .memaddr
  | _ => .mem

/-- The channel number that the channel side of an IO step holds (30_encoding.md R97). -/
def CompId.channel (c : CompId) : Fin 16 := c.code.toFin

/-- `XDATA get -> put [f]` (00_scope.md R10). -/
def Step.xdata (get put : CompId) (f : OpFlags := 0#4) : Step :=
  { kind := .xdata, get := get, put := put, opflags := f, done := false }

/-- `XADDR get -> put [f]`. -/
def Step.xaddr (get put : CompId) (f : OpFlags := 0#4) : Step :=
  { kind := .xaddr, get := get, put := put, opflags := f, done := false }

/-- `IO ch -> put [IOIN]` (30_encoding.md R97). -/
def Step.ioIn (channel : BitVec 4) (put : CompId) : Step :=
  { kind := .io, get := .ofCode channel, put := put, opflags := OpFlags.ioIn, done := false }

/-- `IO get -> ch [IOOUT]` (30_encoding.md R97). -/
def Step.ioOut (get : CompId) (channel : BitVec 4) : Step :=
  { kind := .io, get := get, put := .ofCode channel, opflags := OpFlags.ioOut, done := false }

/-- `OTHER NONE -> NONE [f]`; with no flag it is an idle cycle (40_bus_transactions.md R171). -/
def Step.other (f : OpFlags := 0#4) : Step :=
  { kind := .other, get := .none, put := .none, opflags := f, done := false }

/-- The same step carrying the Done bit. -/
def Step.fin (s : Step) : Step := { s with done := true }

namespace Machine

/-- The value of a byte register. -/
def Regs.getByte (g : Regs) : ByteReg → Byte
  | .a => g.a
  | .b => g.b
  | .c => g.c
  | .d => g.d
  | .lhs => g.lhs
  | .ir => g.ir

/-- Write a byte register (none is hardwired, 10_state.md R22). -/
def Regs.setByte (g : Regs) (r : ByteReg) (v : Byte) : Regs :=
  match r with
  | .a => { g with a := v }
  | .b => { g with b := v }
  | .c => { g with c := v }
  | .d => { g with d := v }
  | .lhs => { g with lhs := v }
  | .ir => { g with ir := v }

/-- The value of an address register. -/
def Regs.getWord (g : Regs) : AddrReg → Word
  | .pc => g.pc
  | .sp => g.sp
  | .bp => g.bp
  | .si => g.si
  | .di => g.di
  | .tx => g.tx
  | .memaddr => g.memaddr

/-- Write an address register. -/
def Regs.setWord (g : Regs) (r : AddrReg) (w : Word) : Regs :=
  match r with
  | .pc => { g with pc := w }
  | .sp => { g with sp := w }
  | .bp => { g with bp := w }
  | .si => { g with si := w }
  | .di => { g with di := w }
  | .tx => { g with tx := w }
  | .memaddr => { g with memaddr := w }

/-- The two's-complement sign extension of a byte, `sext_16` of 00_scope.md R9. -/
def sext16 (b : Byte) : Word := b.signExtend 16

/-- The effective address of an indexed operand, `(base + sext_16(d8)) mod 2^16` (30_encoding.md R93). -/
def indexedAddress (base : Word) (d8 : Byte) : Word := base + sext16 d8

/-- Which register the INC or DEC flag of a step acts on (40_bus_transactions.md R145). -/
inductive AdjustTarget where
  /-- The memory cursor, because MEM takes part. -/
  | cursor
  /-- The get, an address register. -/
  | getSide
  /-- The put, an address register. -/
  | putSide
  /-- No register. -/
  | nothing
deriving DecidableEq, Repr

/-- The adjustment target of a step (40_bus_transactions.md R145). -/
def adjustTarget (st : Step) : AdjustTarget :=
  match st.kind with
  | .xdata =>
    match st.get, st.put with
    | _, .alu => .nothing
    | .mem, _ => .cursor
    | _, .mem => .cursor
    | .addr _, _ => .getSide
    | _, .addr _ => .putSide
    | _, _ => .nothing
  | .xaddr =>
    match st.get, st.put with
    | _, .alu => .nothing
    | .addr _, _ => .getSide
    | _, _ => .nothing
  | .io | .other => .nothing

/-- The opflags a step's transfer obeys on the data path: the step's own in an XDATA step whose put is not ALU, none in an
ALU operation or an IO step (30_encoding.md R96, 40_bus_transactions.md R162, R167). -/
def transferFlags (st : Step) : OpFlags :=
  match st.kind, st.put with
  | .xdata, .alu => 0#4
  | .xdata, _ => st.opflags
  | _, _ => 0#4

/-- Pre-decrement of a get-side address register (40_bus_transactions.md R149, R150). -/
def preAdjust (f : OpFlags) (w : Word) : Word := if f.hasDec then w - 1 else w

/-- Post-increment of a get-side address register (40_bus_transactions.md R149, R150). -/
def postAdjust (f : OpFlags) (w : Word) : Word := if f.hasInc then w + 1 else w

/-- INC or DEC of a put-side register or of the cursor, after the access (40_bus_transactions.md R152, R158, R159). -/
def adjust (f : OpFlags) (w : Word) : Word :=
  if f.hasInc then w + 1 else if f.hasDec then w - 1 else w

/-- The byte of a word an XDATA get drives: the high byte with MSB, else the low byte (40_bus_transactions.md R149). -/
def selectByte (f : OpFlags) (w : Word) : Byte := if f.hasMsb then hi8 w else lo8 w

/-- What an address register holds after latching a byte: the indexed sum, or the byte loaded into its high or low half
(40_bus_transactions.md R152). -/
def loadByte (f : OpFlags) (w : Word) (b : Byte) : Word :=
  if f.hasIdx then indexedAddress w b
  else if f.hasMsb then word b (lo8 w)
  else word (hi8 w) b

/-- The number of operand bytes of a mode (30_encoding.md R91). -/
def operandBytes : Mode → Nat
  | .implied => 0
  | .immediateByte => 1
  | .immediateWord => 2
  | .indirectByte => 2
  | .indirectWord => 2
  | .indexedByte => 1
  | .indexedWord => 1

/-- The number of operand-fetch cycles of a mode (42_controller.md R227). -/
def fetchCycles : Mode → Nat
  | .implied => 0
  | .immediateByte => 2
  | .immediateWord => 4
  | .indirectByte => 6
  | .indirectWord => 7
  | .indexedByte => 4
  | .indexedWord => 4

/-- The cycle cost of an instruction with this entry (42_controller.md R251). -/
def cost (e : Entry) : Nat := 2 + fetchCycles e.mode + e.steps.length

/-- First opcode-fetch cycle, f1 of 42_controller.md R226. -/
def fetchStep1 : Step := .xaddr (.addr .pc) (.addr .memaddr) OpFlags.inc

/-- Second opcode-fetch cycle, f2 of 42_controller.md R226. -/
def fetchStep2 : Step := .xdata .mem (.byte .ir)

/-- The cycles that fetch a word operand into the subject, w1 to w4 of 42_controller.md R229; with subject PC the fourth is
idle (R234). A cycle marked true reads the next byte of the instruction stream. -/
def fetchWord (subject : CompId) (msbFirst : Bool) : List (Step × Bool) :=
  let m1 := if msbFirst then OpFlags.msb else 0#4
  let m2 := if msbFirst then 0#4 else OpFlags.msb
  [(.xaddr (.addr .pc) (.addr .memaddr), false),
   (.xdata .mem subject (OpFlags.inc ||| m1), true),
   (.xdata .mem subject (OpFlags.inc ||| m2), true),
   (if subject = .addr .pc then .other else .xaddr (.addr .memaddr) (.addr .pc), false)]

/-- The operand-fetch cycles of an entry, by addressing mode (42_controller.md R228 to R234). A cycle marked true reads the
next byte of the instruction stream. (An entry whose mode needs a subject and has none is not well formed and never runs.) -/
def fetchOperands (e : Entry) : List (Step × Bool) :=
  let subject := e.subject.getD .none
  match e.mode with
  | .implied => []
  | .immediateByte =>
    [(.xaddr (.addr .pc) (.addr .memaddr) OpFlags.inc, false), (.xdata .mem subject, true)]
  | .immediateWord => fetchWord subject e.msbFirst
  | .indirectByte =>
    fetchWord (.addr .tx) e.msbFirst ++
      [(.xaddr (.addr .tx) (.addr .memaddr), false), (.xdata .mem subject, false)]
  | .indirectWord =>
    fetchWord (.addr .tx) e.msbFirst ++
      [(.xaddr (.addr .tx) (.addr .memaddr), false), (.xdata .mem subject OpFlags.inc, false),
       (.xdata .mem subject OpFlags.msb, false)]
  | .indexedByte | .indexedWord =>
    [(.xaddr (.addr .pc) (.addr .memaddr) OpFlags.inc, false), (.xdata .mem (.addr .tx), true),
     (.xaddr subject (.addr .memaddr), false), (.xdata (.addr .tx) (.addr .memaddr) OpFlags.idx, false)]

end Machine

end Sys2Proof
end

