-- ==== Sys2Proof/Machine/Microcode.lean ====
section
/-! DEFINITION. The shapes of the default table's microcode entries, one builder for each rule of files 43 to 47 that gives an
encoding and a step list. The families (Move, Alu, Stack, Jump, IoSystem) name each instruction's entry with them. -/

namespace Sys2Proof.Machine

open Sys2Proof

/-- An entry with no condition and its operand bytes low byte first; every entry of the default table is so but for the
conditional jumps (30_encoding.md R112). -/
def plainEntry (mnemonic : String) (mode : Mode) (subject : Option CompId) (steps : List Step) : Entry :=
  { mnemonic := mnemonic, mode := mode, subject := subject, cond := none, msbFirst := false, steps := steps }

/-- `MOV r,#i8` (43_data_movement.md R270). -/
def loadImm8 (name : String) (r : ByteReg) : Entry := plainEntry name .immediateByte (some (.byte r)) []

/-- `MOV r,[a16]` (R271). -/
def loadAbs8 (name : String) (r : ByteReg) : Entry := plainEntry name .indirectByte (some (.byte r)) []

/-- `MOV [a16],r` (R272). -/
def storeAbs8 (name : String) (r : ByteReg) : Entry :=
  plainEntry name .immediateWord (some (.addr .tx)) [.xaddr (.addr .tx) (.addr .memaddr), (Step.xdata (.byte r) .mem).fin]

/-- `MOV rd,rs` (R273). -/
def copy8 (name : String) (rd rs : ByteReg) : Entry :=
  plainEntry name .implied none [(Step.xdata (.byte rs) (.byte rd)).fin]

/-- `MOV w,#i16` (R274). -/
def loadImm16 (name : String) (w : AddrReg) : Entry := plainEntry name .immediateWord (some (.addr w)) []

/-- `MOV w,[a16]` (R275). -/
def loadAbs16 (name : String) (w : AddrReg) : Entry := plainEntry name .indirectWord (some (.addr w)) []

/-- `MOV wd,ws` (R276). -/
def copy16 (name : String) (wd ws : AddrReg) : Entry :=
  plainEntry name .implied none [(Step.xaddr (.addr ws) (.addr wd)).fin]

/-- `MOV [a16],w` (R278). -/
def storeAbs16 (name : String) (w : AddrReg) : Entry :=
  plainEntry name .immediateWord (some (.addr .tx))
    [.xaddr (.addr .tx) (.addr .memaddr), .xdata (.addr w) .mem OpFlags.inc, (Step.xdata (.addr w) .mem OpFlags.msb).fin]

/-- `MOV r,b[d8]` (R277). -/
def loadIdx8 (name : String) (r : ByteReg) (base : AddrReg) : Entry :=
  plainEntry name .indexedByte (some (.addr base)) [(Step.xdata .mem (.byte r)).fin]

/-- `MOV b[d8],r` (R279). -/
def storeIdx8 (name : String) (base : AddrReg) (r : ByteReg) : Entry :=
  plainEntry name .indexedByte (some (.addr base)) [(Step.xdata (.byte r) .mem).fin]

/-- `MOV w,BP[d8]` (R280). -/
def loadIdx16 (name : String) (w : AddrReg) : Entry :=
  plainEntry name .indexedWord (some (.addr .bp))
    [.xdata .mem (.addr w) OpFlags.inc, (Step.xdata .mem (.addr w) OpFlags.msb).fin]

/-- `MOV BP[d8],w` (R281). -/
def storeIdx16 (name : String) (w : AddrReg) : Entry :=
  plainEntry name .indexedWord (some (.addr .bp))
    [.xdata (.addr w) .mem OpFlags.inc, (Step.xdata (.addr w) .mem OpFlags.msb).fin]

/-- `OP x,y` with write-back (44_alu_instructions.md R300). -/
def aluReg (name : String) (op : AluOp) (x y : ByteReg) : Entry :=
  plainEntry name .implied none
    [.xdata (.byte x) (.byte .lhs), .xdata (.byte y) .alu op.code, (Step.xdata (.byte .lhs) (.byte x)).fin]

/-- `CMP x,y` (R308): no write-back. -/
def cmpReg (name : String) (x y : ByteReg) : Entry :=
  plainEntry name .implied none [.xdata (.byte x) (.byte .lhs), (Step.xdata (.byte y) .alu AluOp.cmp.code).fin]

/-- `OP r,#i8` with write-back (R309): the immediate goes through the low byte of TX. -/
def aluImm (name : String) (op : AluOp) (r : ByteReg) : Entry :=
  plainEntry name .immediateByte (some (.addr .tx))
    [.xdata (.byte r) (.byte .lhs), .xdata (.addr .tx) .alu op.code, (Step.xdata (.byte .lhs) (.byte r)).fin]

/-- `CMP r,#i8` (R317). -/
def cmpImm (name : String) (r : ByteReg) : Entry :=
  plainEntry name .immediateByte (some (.addr .tx))
    [.xdata (.byte r) (.byte .lhs), (Step.xdata (.addr .tx) .alu AluOp.cmp.code).fin]

/-- `OP r`, unary (R318): the operation acts on the byte on the bus. -/
def aluUnary (name : String) (op : AluOp) (r : ByteReg) : Entry :=
  plainEntry name .implied none [.xdata (.byte r) .alu op.code, (Step.xdata (.byte .lhs) (.byte r)).fin]

/-- `PUSH r` (45_stack.md R331). -/
def push8 (name : String) (r : ByteReg) : Entry :=
  plainEntry name .implied none [.xaddr (.addr .sp) (.addr .memaddr) OpFlags.dec, (Step.xdata (.byte r) .mem).fin]

/-- `POP r` (R332). -/
def pop8 (name : String) (r : ByteReg) : Entry :=
  plainEntry name .implied none [.xaddr (.addr .sp) (.addr .memaddr) OpFlags.inc, (Step.xdata .mem (.byte r)).fin]

/-- `PUSH w` (R334): high byte first. -/
def push16 (name : String) (w : AddrReg) : Entry :=
  plainEntry name .implied none
    [.xaddr (.addr .sp) (.addr .memaddr) OpFlags.dec, .xdata (.addr w) .mem OpFlags.msb,
     .xaddr (.addr .sp) (.addr .memaddr) OpFlags.dec, (Step.xdata (.addr w) .mem).fin]

/-- `POP w` (R335), and RET with w = PC (46_control_flow.md R359). -/
def pop16 (name : String) (w : AddrReg) : Entry :=
  plainEntry name .implied none
    [.xaddr (.addr .sp) (.addr .memaddr) OpFlags.inc, .xdata .mem (.addr w),
     .xaddr (.addr .sp) (.addr .memaddr) OpFlags.inc, (Step.xdata .mem (.addr w) OpFlags.msb).fin]

/-- `PUSHF` (45_stack.md R336): the flags byte goes through TX. -/
def pushFlags (name : String) : Entry :=
  plainEntry name .implied none
    [.xaddr .alu (.addr .tx) OpFlags.flags, .xaddr (.addr .sp) (.addr .memaddr) OpFlags.dec,
     (Step.xdata (.addr .tx) .mem).fin]

/-- `POPF` (R337). -/
def popFlags (name : String) : Entry :=
  plainEntry name .implied none
    [.xaddr (.addr .sp) (.addr .memaddr) OpFlags.inc, .xdata .mem (.addr .tx),
     (Step.xaddr (.addr .tx) .alu OpFlags.flags).fin]

/-- `JMP #t16` (46_control_flow.md R350): the operand is loaded into PC itself. -/
def jumpImm (name : String) : Entry := plainEntry name .immediateWord (some (.addr .pc)) []

/-- `Jcc #t16` (R351). -/
def jumpCond (name : String) (mask : Byte) (op : CondOp) : Entry :=
  { plainEntry name .immediateWord (some (.addr .tx)) [(Step.xaddr (.addr .tx) (.addr .pc)).fin] with
    cond := some { mask := mask, op := op } }

/-- `CALL #t16` (R358): push PC, then load it. -/
def callImm (name : String) : Entry :=
  plainEntry name .immediateWord (some (.addr .tx))
    [.xaddr (.addr .sp) (.addr .memaddr) OpFlags.dec, .xdata (.addr .pc) .mem OpFlags.msb,
     .xaddr (.addr .sp) (.addr .memaddr) OpFlags.dec, .xdata (.addr .pc) .mem,
     (Step.xaddr (.addr .tx) (.addr .pc)).fin]

/-- `NOP` (47_io_system.md R370): no step. -/
def noOperation (name : String) : Entry := plainEntry name .implied none []

/-- `IN r,#ch` (R371). -/
def inputChannel (name : String) (r : ByteReg) (channel : BitVec 4) : Entry :=
  plainEntry name .implied none [(Step.ioIn channel (.byte r)).fin]

/-- `OUT #ch,r` (R372). -/
def outputChannel (name : String) (channel : BitVec 4) (r : ByteReg) : Entry :=
  plainEntry name .implied none [(Step.ioOut (.byte r) channel).fin]

/-- `HLT` (R373). -/
def haltRun (name : String) : Entry := plainEntry name .implied none [(Step.other OpFlags.halt).fin]

end Sys2Proof.Machine
end

