-- ==== Sys2Proof/Machine/Ops.lean ====
section
/-! DEFINITION. The named operations over memory, I/O and the bus: the byte access primitives and bank operations
(20_memory.md), errors (60_exceptions.md R402), the two clock phases and one cycle (40_bus_transactions.md). -/

namespace Sys2Proof.Machine

open Sys2Proof

/-! ### Memory -/

/-- The bank covers the address (20_memory.md R61). -/
def Bank.covers (b : Bank) (a : Nat) : Bool := decide (b.start ≤ a) && decide (a < b.start + b.size)

/-- The bank that covers an address, if any (20_memory.md R62). -/
def Memory.bankOf (m : Memory) (a : Nat) : Option Bank := m.banks.find? (·.covers a)

/-- The byte listed for an address, or what an unlisted address reads as. -/
def lookupCell : List Host.Cell → Nat → Byte
  | [], _ => Config.unlistedByte
  | (k, v) :: rest, a => if k = a then v else lookupCell rest a

/-- Put a cell into its place in the order of addresses. -/
def insertCell : List Host.Cell → Nat → Byte → List Host.Cell
  | [], a, v => [(a, v)]
  | (k, w) :: rest, a, v => if a < k then (a, v) :: (k, w) :: rest else (k, w) :: insertCell rest a v

/-- Write one cell: the address's old entry goes, and the new one is listed unless it equals what an unlisted address reads
as. -/
def storeCell (cells : List Host.Cell) (a : Nat) (v : Byte) : List Host.Cell :=
  if v = Config.unlistedByte then cells.filter (fun c => c.1 != a)
  else insertCell (cells.filter fun c => c.1 != a) a v

/-- `MemRead` (20_memory.md R68): the byte, or none (ProtectedMemory) if unmapped. -/
def Memory.readByte (m : Memory) (a : Nat) : Option Byte :=
  match m.bankOf a with
  | some _ => some (lookupCell m.cells a)
  | none => none

/-- `MemWrite` (20_memory.md R69): the memory after the write, or none (ProtectedMemory) if unmapped or read-only. -/
def Memory.writeByte (m : Memory) (a : Nat) (v : Byte) : Option Memory :=
  match m.bankOf a with
  | some b => if b.writable then some { m with cells := storeCell m.cells a v } else none
  | none => none

/-- The address is mapped and its bank is writable. -/
def Memory.writable (m : Memory) (a : Nat) : Bool := (m.bankOf a).any Bank.writable

/-- Banks in canonical form: each at least one byte and inside the space (20_memory.md R61), in order of address and
disjoint (R62). -/
abbrev banksWf (banks : List Bank) : Prop :=
  (∀ b ∈ banks, 1 ≤ b.size ∧ b.start + b.size ≤ Config.addressSpace) ∧
    banks.Pairwise fun x y => x.start + x.size ≤ y.start

/-- The canonical form of memory: the banks as `banksWf` says; the cells strictly rising, none equal to what an unlisted
address reads as, each covered by a bank. -/
abbrev Memory.wf (m : Memory) : Prop :=
  banksWf m.banks ∧ m.cells.Pairwise (fun x y => x.1 < y.1) ∧
    ∀ c ∈ m.cells, c.2 ≠ Config.unlistedByte ∧ (m.bankOf c.1).isSome = true

/-- Write consecutive bytes from an address on, whatever the banks say (image loading, 20_memory.md R63, R66). -/
def storeBytes (cells : List Host.Cell) (a : Nat) : List Byte → List Host.Cell
  | [] => cells
  | v :: rest => storeBytes (storeCell cells a v) (a + 1) rest

/-- Put a bank into its place in the order of addresses. -/
def insertBank : List Bank → Bank → List Bank
  | [], n => [n]
  | b :: rest, n => if n.start < b.start then n :: b :: rest else b :: insertBank rest n

/-- The block lies inside the bank (20_memory.md R63). -/
def Bank.contains (b : Bank) (start size : Nat) : Bool :=
  decide (b.start ≤ start) && decide (start + size ≤ b.start + b.size)

/-- The block and the bank share an address (20_memory.md R63). -/
def Bank.overlaps (b : Bank) (start size : Nat) : Bool :=
  decide (start < b.start + b.size) && decide (b.start < start + size)

/-- `add(start, size, writable, image)` (20_memory.md R63): none is a rejection (GeneralError), which changes nothing. A
block that is empty or passes 0xFFFF (R61), or an image of another length than `size` (log 12), is rejected; without an image
the block's bytes are 0x00 (R67). -/
def Memory.add (m : Memory) (start size : Nat) (writable : Bool) (image : Option (List Byte)) : Option Memory :=
  let bytes := image.getD (List.replicate size Config.unlistedByte)
  if size = 0 ∨ Config.addressSpace < start + size ∨ bytes.length ≠ size then none
  else if m.banks.any (·.contains start size) then some { m with cells := storeBytes m.cells start bytes }
  else if m.banks.any (·.overlaps start size) then none
  else
    some { banks := insertBank m.banks { start := start, size := size, writable := writable }
           cells := storeBytes m.cells start bytes }

/-- `remove(start)` (20_memory.md R64): the bank that starts exactly there goes, with its bytes; if there is none, nothing
changes. -/
def Memory.remove (m : Memory) (start : Nat) : Memory :=
  match m.banks.find? (fun b => b.start == start) with
  | none => m
  | some k =>
    { banks := m.banks.filter fun b => b.start != start
      cells := m.cells.filter fun c => !k.covers c.1 }

/-- The memory a host gives a machine that has none: one writable bank over the whole space, without an image, so every byte
0x00 (20_memory.md R63, R67; the platform of 95_test_vectors.md). -/
def Memory.wholeSpace : Memory :=
  { banks := [{ start := 0, size := Config.addressSpace, writable := true }], cells := [] }

/-! ### Outcomes and errors -/

/-- The outcome of a phase, a cycle or an instruction. -/
abbrev Out := Host.Outcome State Fault Refusal

/-- Go on from a next state; a fault or a refusal ends what follows (42_controller.md R242). -/
def andThen (o : Out) (f : State → Out) : Out :=
  match o with
  | .next s => f s
  | .fault e => .fault e
  | .refused r => .refused r

/-- A component or a decode raises an error in state `s` (60_exceptions.md R400): the effects so far stand. -/
def raise (error : State → Fault) (s : State) : Out := .fault (error s)

/-- The state an error left. -/
def Fault.left : Fault → State
  | .invalidComponentID s | .protectedMemory s | .invalidInstruction s | .invalidMicroCode s => s

/-- Change the state an error left. -/
def Fault.mapLeft (f : State → State) : Fault → Fault
  | .invalidComponentID s => .invalidComponentID (f s)
  | .protectedMemory s => .protectedMemory (f s)
  | .invalidInstruction s => .invalidInstruction (f s)
  | .invalidMicroCode s => .invalidMicroCode (f s)

/-- The controller between two instructions (10_state.md R43). -/
def State.betweenInstructions (s : State) : State := { s with control := .fetchOpcode1 }

/-- Taking an error, the one way an instruction ends early (60_exceptions.md R402, R411; 42_controller.md R242): no vector, no
saved address, no mode change, nothing rolled back, no retire and no count; the controller goes back between instructions
(log 2) and the error goes to the host. There is no return from it (R411). -/
def takeError (o : Out) : Out :=
  match o with
  | .fault e => .fault (e.mapLeft State.betweenInstructions)
  | .next s => .next s
  | .refused r => .refused r

/-! ### Bus, registers and notifications -/

/-- Tell the host of an event (10_state.md R47). -/
def State.notify (s : State) (e : Event) : State := { s with events := e :: s.events }

/-- Drive the data bus (10_state.md R41). -/
def State.driveData (s : State) (v : Byte) : State := { s with bus := { s.bus with data := v } }

/-- Drive both bus bytes, low byte on the data bus, high byte on the address bus (40_bus_transactions.md R146). -/
def State.driveWord (s : State) (w : Word) : State := { s with bus := { s.bus with data := lo8 w, addr := hi8 w } }

/-- Write an address register without a notification: a get-side or cursor adjustment (40_bus_transactions.md R149, R158). -/
def State.setWord (s : State) (r : AddrReg) (w : Word) : State := { s with regs := s.regs.setWord r w }

/-- Latch a byte register, with its value-changed notification (40_bus_transactions.md R147). -/
def State.latchByte (s : State) (r : ByteReg) (v : Byte) : State :=
  { s with regs := s.regs.setByte r v, events := .byteChanged r v :: s.events }

/-- Latch an address register, with its value-changed notification (40_bus_transactions.md R152, R153). -/
def State.latchWord (s : State) (r : AddrReg) (w : Word) : State :=
  { s with regs := s.regs.setWord r w, events := .wordChanged r w :: s.events }

/-- Program the bus with a step's fields (40_bus_transactions.md R142). -/
def programBus (st : Step) (s : State) : State :=
  { s with bus := { s.bus with kind := st.kind, get := st.get, put := st.put, opflags := st.opflags, done := st.done } }

/-! ### I/O channels -/

/-- An input channel supplies its next byte (47_io_system.md R375). A channel that is not an installed input raises
InvalidComponentID and consumes nothing; with no byte left the model refuses (log 10). -/
def channelInput (ch : Fin 16) (s : State) : Out :=
  match s.io.channels[ch.val] with
  | some .input =>
    match s.io.input[ch.val] with
    | [] => .refused (.inputExhausted ch)
    | v :: rest =>
      .next (({ s with io := { s.io with input := s.io.input.set ch.val rest } }.driveData v).notify (.inputRead ch v))
  | _ => raise .invalidComponentID s

/-- An output channel receives the data bus (47_io_system.md R376). A channel that is not an installed output raises
InvalidComponentID and receives nothing. -/
def channelOutput (ch : Fin 16) (s : State) : Out :=
  match s.io.channels[ch.val] with
  | some .output =>
    .next ({ s with io := { s.io with
      output := s.io.output.set ch.val (s.io.output[ch.val] ++ [s.bus.data]) } }.notify (.outputWritten ch s.bus.data))
  | _ => raise .invalidComponentID s

/-! ### The rising edge -/

/-- MEM drives the byte at the cursor, then the cursor is adjusted (40_bus_transactions.md R158). `fetched` is the byte of an
instruction-stream read whose instruction has already been read from memory (log 11); without it the byte is read here. -/
def driveMem (f : OpFlags) (fetched : Option Byte) (s : State) : Out :=
  match fetched.or (s.mem.readByte s.regs.memaddr.toNat) with
  | some v => .next ((s.driveData v).setWord .memaddr (adjust f s.regs.memaddr))
  | none => raise .protectedMemory s

/-- An address register drives one byte, pre-decremented and post-incremented if it is the adjustment target
(40_bus_transactions.md R149). -/
def driveAddrByte (f : OpFlags) (target : Bool) (r : AddrReg) (s : State) : State :=
  let w := if target then preAdjust f (s.regs.getWord r) else s.regs.getWord r
  (s.driveData (selectByte f w)).setWord r (if target then postAdjust f w else w)

/-- The get side of an XDATA or IOOUT step drives the data bus (40_bus_transactions.md R147, R149, R158, R167). -/
def driveByteSide (st : Step) (fetched : Option Byte) (s : State) : Out :=
  match st.get with
  | .byte r => .next (s.driveData (s.regs.getByte r))
  | .addr r => .next (driveAddrByte (transferFlags st) (adjustTarget st = .getSide) r s)
  | .mem => driveMem (transferFlags st) fetched s
  | .alu | .none => raise .invalidMicroCode s

/-- The get side of an XADDR step drives both bus bytes (40_bus_transactions.md R148, R151, R164). -/
def driveWordSide (st : Step) (s : State) : Out :=
  match st.get, st.put with
  | .addr r, .alu => .next (s.driveWord (s.regs.getWord r))
  | .addr r, _ =>
    let w := preAdjust st.opflags (s.regs.getWord r)
    .next ((s.driveWord w).setWord r (postAdjust st.opflags w))
  | .byte r, .alu => .next (s.driveWord (word 0 (s.regs.getByte r)))
  | .alu, _ => .next (s.driveWord (word 0 (flagsByte s.flags)))
  | _, _ => raise .invalidMicroCode s

/-- The rising edge of a cycle: the get side drives (40_bus_transactions.md R141, R142). Sides that no
well-formed step has raise InvalidMicroCode (DEDUCED, log 13, safe). -/
def risingEdge (st : Step) (fetched : Option Byte) (s : State) : Out :=
  match st.kind with
  | .xdata => driveByteSide st fetched s
  | .xaddr => driveWordSide st s
  | .io => if st.opflags = OpFlags.ioIn then channelInput st.get.channel s else driveByteSide st none s
  | .other => .next s

/-! ### The high clock -/

/-- An ALU operation on LHS and the data bus (41_alu.md R182): RHS latched, LHS written except by CMP, flags written. WADD and
WSUB raise InvalidMicroCode and change nothing (R198). -/
def aluOperate (op : AluOp) (s : State) : Out :=
  match aluRaw op s.regs.lhs s.bus.data s.flags.c with
  | some raw =>
    let t := { s with regs := { s.regs with rhs := s.bus.data },
                      flags := aluFlags op s.regs.lhs s.bus.data raw s.flags }
    .next (if op = .cmp then t else t.latchByte .lhs (aluResult raw))
  | none => raise .invalidMicroCode s

/-- MEM writes the data bus at the cursor, then the cursor is adjusted (40_bus_transactions.md R159). -/
def latchMem (f : OpFlags) (s : State) : Out :=
  match s.mem.writeByte s.regs.memaddr.toNat s.bus.data with
  | some m => .next ({ s with mem := m }.setWord .memaddr (adjust f s.regs.memaddr))
  | none => raise .protectedMemory s

/-- An address register latches the data byte: the indexed sum or a half load, then INC or DEC if it is the adjustment target
(40_bus_transactions.md R152). -/
def latchAddrByte (f : OpFlags) (target : Bool) (r : AddrReg) (s : State) : State :=
  let w := loadByte f (s.regs.getWord r) s.bus.data
  s.latchWord r (if target then adjust f w else w)

/-- The put side of an XDATA or IOIN step latches the data bus (40_bus_transactions.md R147, R152, R159, R167). -/
def latchByteSide (st : Step) (s : State) : Out :=
  match st.put with
  | .byte r => .next (s.latchByte r s.bus.data)
  | .addr r => .next (latchAddrByte (transferFlags st) (adjustTarget st = .putSide) r s)
  | .mem => latchMem (transferFlags st) s
  | .alu => if st.kind = .xdata then aluOperate (.ofCode st.opflags) s else raise .invalidMicroCode s
  | .none => raise .invalidMicroCode s

/-- The put side of an XADDR step latches the bus word, the low byte (a byte register), or the flags
(40_bus_transactions.md R148, R153, R165). -/
def latchWordSide (st : Step) (s : State) : Out :=
  match st.put with
  | .addr r => .next (s.latchWord r (word s.bus.addr s.bus.data))
  | .byte r => .next (s.latchByte r s.bus.data)
  | .alu => .next { s with flags := flagsOfByte s.bus.data }
  | .mem | .none => raise .invalidMicroCode s

/-- The high clock of a cycle: the put side latches (40_bus_transactions.md R141, R142); HALT sets the halt line (R170). Sides
that no well-formed step has raise InvalidMicroCode (log 13). -/
def highClock (st : Step) (s : State) : Out :=
  match st.kind with
  | .xdata => latchByteSide st s
  | .xaddr => latchWordSide st s
  | .io => if st.opflags = OpFlags.ioIn then latchByteSide st s else channelOutput st.put.channel s
  | .other => .next (if st.opflags = OpFlags.halt then { s with lines := { s.lines with halt := true } } else s)

/-- The step a cycle runs: an idle one in place of a suppressed step, keeping its Done bit (40_bus_transactions.md R142). -/
def effectiveStep (st : Step) (suppress : Bool) : Step :=
  if suppress then { kind := .other, get := .none, put := .none, opflags := 0#4, done := st.done } else st

/-- One cycle (40_bus_transactions.md R142): program the bus, rising edge, high clock. If the rising edge raises, the high clock
does not happen; if the high clock raises, the rising edge's effects stand (R143). -/
def cycle (st : Step) (suppress : Bool) (fetched : Option Byte) (s : State) : Out :=
  andThen (risingEdge (effectiveStep st suppress) fetched (programBus (effectiveStep st suppress) s))
    (highClock (effectiveStep st suppress))

end Sys2Proof.Machine
end

