-- ==== Sys2Proof/Machine/Sequencer.lean ====
section
/-! DEFINITION. The microcode sequencer (42_controller.md): the cycle list of an instruction (R225), running it cycle by cycle
(R236 to R239), and retire (R240). -/

namespace Sys2Proof.Machine

open Sys2Proof

/-- Give each instruction-stream read its byte, in order. With no bytes (left), the read goes to memory. -/
def supply : List (Step × Bool) → List Byte → List (Step × Option Byte)
  | [], _ => []
  | (st, true) :: rest, b :: bytes => (st, some b) :: supply rest bytes
  | (st, _) :: rest, bytes => (st, none) :: supply rest bytes

/-- The cycles after the opcode fetch: the operand fetch, then the entry's steps as the table holds them (42_controller.md
R225). `bytes` are the operand bytes if they have already been read from memory (log 11). -/
def bodyCycles (e : Entry) (bytes : List Byte) : List (Step × Option Byte) :=
  supply (fetchOperands e) bytes ++ e.steps.map fun st => (st, none)

/-- The last step of a conditional entry is suppressed when the condition does not hold on the flags as the previous cycles
left them (42_controller.md R238, R239). -/
def suppressed (e : Entry) (isLast : Bool) (f : Flags) : Bool :=
  match e.cond with
  | some c => isLast && !taken c f
  | none => false

/-- Retire (42_controller.md R240): the cost is added to the run's counter, the listener gets the mnemonic (R262), and the
controller is back between instructions. -/
def retire (e : Entry) (s : State) : State :=
  { s with count := s.count + cost e, events := .retired e.mnemonic :: s.events, control := .fetchOpcode1 }

/-- Run the remaining cycles of an instruction, `index` being the next one's place in its cycle list, and retire. -/
def runCycles (e : Entry) : List (Step × Option Byte) → Nat → State → Out
  | [], _, s => .next (retire e s)
  | (st, fetched) :: rest, index, s =>
    andThen (cycle st (suppressed e rest.isEmpty s.flags) fetched s) fun t =>
      runCycles e rest (index + 1) { t with control := .running e (index + 1) }

/-- The opcode fetch, f1 and f2 (42_controller.md R226). -/
def fetchOpcode (fetched : Option Byte) (s : State) : Out :=
  andThen (cycle fetchStep1 false none s) fun t =>
    cycle fetchStep2 false fetched { t with control := .fetchOpcode2 }

/-- The part of an instruction after its decode: operand fetch, steps, retire. -/
def runBody (e : Entry) (bytes : List Byte) (s : State) : Out :=
  runCycles e (bodyCycles e bytes) 2 { s with control := .running e 2 }

/-- Run one instruction whose entry is `e` and whose bytes (opcode first) have been read from memory: the opcode fetch, the
operand fetch and the steps, ended early by the first error (42_controller.md R225, R242). -/
def runEntry (e : Entry) (bytes : List Byte) (s : State) : Out :=
  takeError (andThen (fetchOpcode bytes.head? s) (runBody e bytes.tail))

end Sys2Proof.Machine
end

