-- ==== Sys2Proof/Machine/Alu.lean ====
section
/-! DEFINITION. The ALU instructions (44_alu_instructions.md): for each instruction its entry of the default table, `mc<Name>`, and
its meaning, `exec<Name>`, the run of that entry's cycles on the instruction's own bytes (42_controller.md R225). -/

namespace Sys2Proof.Machine

open Sys2Proof

/-- `ADD A,B`, opcode 0x70 (R301). -/
def mcAddAB : Entry := aluReg "ADD A,B" .add .a .b
/-- The meaning of `ADD A,B` (R301). -/
def execAddAB (s : State) : Out := runEntry mcAddAB (encode .addAB) s

/-- `ADD A,C`, opcode 0x71 (R301). -/
def mcAddAC : Entry := aluReg "ADD A,C" .add .a .c
/-- The meaning of `ADD A,C` (R301). -/
def execAddAC (s : State) : Out := runEntry mcAddAC (encode .addAC) s

/-- `ADD A,D`, opcode 0x72 (R301). -/
def mcAddAD : Entry := aluReg "ADD A,D" .add .a .d
/-- The meaning of `ADD A,D` (R301). -/
def execAddAD (s : State) : Out := runEntry mcAddAD (encode .addAD) s

/-- `ADD B,C`, opcode 0x73 (R301). -/
def mcAddBC : Entry := aluReg "ADD B,C" .add .b .c
/-- The meaning of `ADD B,C` (R301). -/
def execAddBC (s : State) : Out := runEntry mcAddBC (encode .addBC) s

/-- `ADD B,D`, opcode 0x74 (R301). -/
def mcAddBD : Entry := aluReg "ADD B,D" .add .b .d
/-- The meaning of `ADD B,D` (R301). -/
def execAddBD (s : State) : Out := runEntry mcAddBD (encode .addBD) s

/-- `ADD C,D`, opcode 0x75 (R301). -/
def mcAddCD : Entry := aluReg "ADD C,D" .add .c .d
/-- The meaning of `ADD C,D` (R301). -/
def execAddCD (s : State) : Out := runEntry mcAddCD (encode .addCD) s

/-- `ADC A,B`, opcode 0x76 (R302). -/
def mcAdcAB : Entry := aluReg "ADC A,B" .adc .a .b
/-- The meaning of `ADC A,B` (R302). -/
def execAdcAB (s : State) : Out := runEntry mcAdcAB (encode .adcAB) s

/-- `ADC A,C`, opcode 0x77 (R302). -/
def mcAdcAC : Entry := aluReg "ADC A,C" .adc .a .c
/-- The meaning of `ADC A,C` (R302). -/
def execAdcAC (s : State) : Out := runEntry mcAdcAC (encode .adcAC) s

/-- `ADC A,D`, opcode 0x78 (R302). -/
def mcAdcAD : Entry := aluReg "ADC A,D" .adc .a .d
/-- The meaning of `ADC A,D` (R302). -/
def execAdcAD (s : State) : Out := runEntry mcAdcAD (encode .adcAD) s

/-- `ADC B,C`, opcode 0x79 (R302). -/
def mcAdcBC : Entry := aluReg "ADC B,C" .adc .b .c
/-- The meaning of `ADC B,C` (R302). -/
def execAdcBC (s : State) : Out := runEntry mcAdcBC (encode .adcBC) s

/-- `ADC B,D`, opcode 0x7A (R302). -/
def mcAdcBD : Entry := aluReg "ADC B,D" .adc .b .d
/-- The meaning of `ADC B,D` (R302). -/
def execAdcBD (s : State) : Out := runEntry mcAdcBD (encode .adcBD) s

/-- `ADC C,D`, opcode 0x7B (R302). -/
def mcAdcCD : Entry := aluReg "ADC C,D" .adc .c .d
/-- The meaning of `ADC C,D` (R302). -/
def execAdcCD (s : State) : Out := runEntry mcAdcCD (encode .adcCD) s

/-- `SUB A,B`, opcode 0x7C (R303). -/
def mcSubAB : Entry := aluReg "SUB A,B" .sub .a .b
/-- The meaning of `SUB A,B` (R303). -/
def execSubAB (s : State) : Out := runEntry mcSubAB (encode .subAB) s

/-- `SUB A,C`, opcode 0x7D (R303). -/
def mcSubAC : Entry := aluReg "SUB A,C" .sub .a .c
/-- The meaning of `SUB A,C` (R303). -/
def execSubAC (s : State) : Out := runEntry mcSubAC (encode .subAC) s

/-- `SUB A,D`, opcode 0x7E (R303). -/
def mcSubAD : Entry := aluReg "SUB A,D" .sub .a .d
/-- The meaning of `SUB A,D` (R303). -/
def execSubAD (s : State) : Out := runEntry mcSubAD (encode .subAD) s

/-- `SUB B,C`, opcode 0x7F (R303). -/
def mcSubBC : Entry := aluReg "SUB B,C" .sub .b .c
/-- The meaning of `SUB B,C` (R303). -/
def execSubBC (s : State) : Out := runEntry mcSubBC (encode .subBC) s

/-- `SUB B,D`, opcode 0x80 (R303). -/
def mcSubBD : Entry := aluReg "SUB B,D" .sub .b .d
/-- The meaning of `SUB B,D` (R303). -/
def execSubBD (s : State) : Out := runEntry mcSubBD (encode .subBD) s

/-- `SUB C,D`, opcode 0x81 (R303). -/
def mcSubCD : Entry := aluReg "SUB C,D" .sub .c .d
/-- The meaning of `SUB C,D` (R303). -/
def execSubCD (s : State) : Out := runEntry mcSubCD (encode .subCD) s

/-- `SBB A,B`, opcode 0x82 (R304). -/
def mcSbbAB : Entry := aluReg "SBB A,B" .sbb .a .b
/-- The meaning of `SBB A,B` (R304). -/
def execSbbAB (s : State) : Out := runEntry mcSbbAB (encode .sbbAB) s

/-- `SBB A,C`, opcode 0x83 (R304). -/
def mcSbbAC : Entry := aluReg "SBB A,C" .sbb .a .c
/-- The meaning of `SBB A,C` (R304). -/
def execSbbAC (s : State) : Out := runEntry mcSbbAC (encode .sbbAC) s

/-- `SBB A,D`, opcode 0x84 (R304). -/
def mcSbbAD : Entry := aluReg "SBB A,D" .sbb .a .d
/-- The meaning of `SBB A,D` (R304). -/
def execSbbAD (s : State) : Out := runEntry mcSbbAD (encode .sbbAD) s

/-- `SBB B,C`, opcode 0x85 (R304). -/
def mcSbbBC : Entry := aluReg "SBB B,C" .sbb .b .c
/-- The meaning of `SBB B,C` (R304). -/
def execSbbBC (s : State) : Out := runEntry mcSbbBC (encode .sbbBC) s

/-- `SBB B,D`, opcode 0x86 (R304). -/
def mcSbbBD : Entry := aluReg "SBB B,D" .sbb .b .d
/-- The meaning of `SBB B,D` (R304). -/
def execSbbBD (s : State) : Out := runEntry mcSbbBD (encode .sbbBD) s

/-- `SBB C,D`, opcode 0x87 (R304). -/
def mcSbbCD : Entry := aluReg "SBB C,D" .sbb .c .d
/-- The meaning of `SBB C,D` (R304). -/
def execSbbCD (s : State) : Out := runEntry mcSbbCD (encode .sbbCD) s

/-- `AND A,B`, opcode 0x88 (R305). -/
def mcAndAB : Entry := aluReg "AND A,B" .and .a .b
/-- The meaning of `AND A,B` (R305). -/
def execAndAB (s : State) : Out := runEntry mcAndAB (encode .andAB) s

/-- `AND A,C`, opcode 0x89 (R305). -/
def mcAndAC : Entry := aluReg "AND A,C" .and .a .c
/-- The meaning of `AND A,C` (R305). -/
def execAndAC (s : State) : Out := runEntry mcAndAC (encode .andAC) s

/-- `AND A,D`, opcode 0x8A (R305). -/
def mcAndAD : Entry := aluReg "AND A,D" .and .a .d
/-- The meaning of `AND A,D` (R305). -/
def execAndAD (s : State) : Out := runEntry mcAndAD (encode .andAD) s

/-- `AND B,C`, opcode 0x8B (R305). -/
def mcAndBC : Entry := aluReg "AND B,C" .and .b .c
/-- The meaning of `AND B,C` (R305). -/
def execAndBC (s : State) : Out := runEntry mcAndBC (encode .andBC) s

/-- `AND B,D`, opcode 0x8C (R305). -/
def mcAndBD : Entry := aluReg "AND B,D" .and .b .d
/-- The meaning of `AND B,D` (R305). -/
def execAndBD (s : State) : Out := runEntry mcAndBD (encode .andBD) s

/-- `AND C,D`, opcode 0x8D (R305). -/
def mcAndCD : Entry := aluReg "AND C,D" .and .c .d
/-- The meaning of `AND C,D` (R305). -/
def execAndCD (s : State) : Out := runEntry mcAndCD (encode .andCD) s

/-- `OR A,B`, opcode 0x8E (R306). -/
def mcOrAB : Entry := aluReg "OR A,B" .or .a .b
/-- The meaning of `OR A,B` (R306). -/
def execOrAB (s : State) : Out := runEntry mcOrAB (encode .orAB) s

/-- `OR A,C`, opcode 0x8F (R306). -/
def mcOrAC : Entry := aluReg "OR A,C" .or .a .c
/-- The meaning of `OR A,C` (R306). -/
def execOrAC (s : State) : Out := runEntry mcOrAC (encode .orAC) s

/-- `OR A,D`, opcode 0x90 (R306). -/
def mcOrAD : Entry := aluReg "OR A,D" .or .a .d
/-- The meaning of `OR A,D` (R306). -/
def execOrAD (s : State) : Out := runEntry mcOrAD (encode .orAD) s

/-- `OR B,C`, opcode 0x91 (R306). -/
def mcOrBC : Entry := aluReg "OR B,C" .or .b .c
/-- The meaning of `OR B,C` (R306). -/
def execOrBC (s : State) : Out := runEntry mcOrBC (encode .orBC) s

/-- `OR B,D`, opcode 0x92 (R306). -/
def mcOrBD : Entry := aluReg "OR B,D" .or .b .d
/-- The meaning of `OR B,D` (R306). -/
def execOrBD (s : State) : Out := runEntry mcOrBD (encode .orBD) s

/-- `OR C,D`, opcode 0x93 (R306). -/
def mcOrCD : Entry := aluReg "OR C,D" .or .c .d
/-- The meaning of `OR C,D` (R306). -/
def execOrCD (s : State) : Out := runEntry mcOrCD (encode .orCD) s

/-- `XOR A,B`, opcode 0x94 (R307). -/
def mcXorAB : Entry := aluReg "XOR A,B" .xor .a .b
/-- The meaning of `XOR A,B` (R307). -/
def execXorAB (s : State) : Out := runEntry mcXorAB (encode .xorAB) s

/-- `XOR A,C`, opcode 0x95 (R307). -/
def mcXorAC : Entry := aluReg "XOR A,C" .xor .a .c
/-- The meaning of `XOR A,C` (R307). -/
def execXorAC (s : State) : Out := runEntry mcXorAC (encode .xorAC) s

/-- `XOR A,D`, opcode 0x96 (R307). -/
def mcXorAD : Entry := aluReg "XOR A,D" .xor .a .d
/-- The meaning of `XOR A,D` (R307). -/
def execXorAD (s : State) : Out := runEntry mcXorAD (encode .xorAD) s

/-- `XOR B,C`, opcode 0x97 (R307). -/
def mcXorBC : Entry := aluReg "XOR B,C" .xor .b .c
/-- The meaning of `XOR B,C` (R307). -/
def execXorBC (s : State) : Out := runEntry mcXorBC (encode .xorBC) s

/-- `XOR B,D`, opcode 0x98 (R307). -/
def mcXorBD : Entry := aluReg "XOR B,D" .xor .b .d
/-- The meaning of `XOR B,D` (R307). -/
def execXorBD (s : State) : Out := runEntry mcXorBD (encode .xorBD) s

/-- `XOR C,D`, opcode 0x99 (R307). -/
def mcXorCD : Entry := aluReg "XOR C,D" .xor .c .d
/-- The meaning of `XOR C,D` (R307). -/
def execXorCD (s : State) : Out := runEntry mcXorCD (encode .xorCD) s

/-- `CMP A,B`, opcode 0x9A (R308). -/
def mcCmpAB : Entry := cmpReg "CMP A,B" .a .b
/-- The meaning of `CMP A,B` (R308). -/
def execCmpAB (s : State) : Out := runEntry mcCmpAB (encode .cmpAB) s

/-- `CMP A,C`, opcode 0x9B (R308). -/
def mcCmpAC : Entry := cmpReg "CMP A,C" .a .c
/-- The meaning of `CMP A,C` (R308). -/
def execCmpAC (s : State) : Out := runEntry mcCmpAC (encode .cmpAC) s

/-- `CMP A,D`, opcode 0x9C (R308). -/
def mcCmpAD : Entry := cmpReg "CMP A,D" .a .d
/-- The meaning of `CMP A,D` (R308). -/
def execCmpAD (s : State) : Out := runEntry mcCmpAD (encode .cmpAD) s

/-- `CMP B,C`, opcode 0x9D (R308). -/
def mcCmpBC : Entry := cmpReg "CMP B,C" .b .c
/-- The meaning of `CMP B,C` (R308). -/
def execCmpBC (s : State) : Out := runEntry mcCmpBC (encode .cmpBC) s

/-- `CMP B,D`, opcode 0x9E (R308). -/
def mcCmpBD : Entry := cmpReg "CMP B,D" .b .d
/-- The meaning of `CMP B,D` (R308). -/
def execCmpBD (s : State) : Out := runEntry mcCmpBD (encode .cmpBD) s

/-- `CMP C,D`, opcode 0x9F (R308). -/
def mcCmpCD : Entry := cmpReg "CMP C,D" .c .d
/-- The meaning of `CMP C,D` (R308). -/
def execCmpCD (s : State) : Out := runEntry mcCmpCD (encode .cmpCD) s

/-- `ADD A,#i8`, opcode 0xA0 (R310). -/
def mcAddAImm : Entry := aluImm "ADD A,#i8" .add .a
/-- The meaning of `ADD A,#i8` (R310). -/
def execAddAImm (i8 : Byte) (s : State) : Out := runEntry mcAddAImm (encode (.addAImm i8)) s

/-- `ADD B,#i8`, opcode 0xA1 (R310). -/
def mcAddBImm : Entry := aluImm "ADD B,#i8" .add .b
/-- The meaning of `ADD B,#i8` (R310). -/
def execAddBImm (i8 : Byte) (s : State) : Out := runEntry mcAddBImm (encode (.addBImm i8)) s

/-- `ADD C,#i8`, opcode 0xA2 (R310). -/
def mcAddCImm : Entry := aluImm "ADD C,#i8" .add .c
/-- The meaning of `ADD C,#i8` (R310). -/
def execAddCImm (i8 : Byte) (s : State) : Out := runEntry mcAddCImm (encode (.addCImm i8)) s

/-- `ADD D,#i8`, opcode 0xA3 (R310). -/
def mcAddDImm : Entry := aluImm "ADD D,#i8" .add .d
/-- The meaning of `ADD D,#i8` (R310). -/
def execAddDImm (i8 : Byte) (s : State) : Out := runEntry mcAddDImm (encode (.addDImm i8)) s

/-- `ADC A,#i8`, opcode 0xA4 (R311). -/
def mcAdcAImm : Entry := aluImm "ADC A,#i8" .adc .a
/-- The meaning of `ADC A,#i8` (R311). -/
def execAdcAImm (i8 : Byte) (s : State) : Out := runEntry mcAdcAImm (encode (.adcAImm i8)) s

/-- `ADC B,#i8`, opcode 0xA5 (R311). -/
def mcAdcBImm : Entry := aluImm "ADC B,#i8" .adc .b
/-- The meaning of `ADC B,#i8` (R311). -/
def execAdcBImm (i8 : Byte) (s : State) : Out := runEntry mcAdcBImm (encode (.adcBImm i8)) s

/-- `ADC C,#i8`, opcode 0xA6 (R311). -/
def mcAdcCImm : Entry := aluImm "ADC C,#i8" .adc .c
/-- The meaning of `ADC C,#i8` (R311). -/
def execAdcCImm (i8 : Byte) (s : State) : Out := runEntry mcAdcCImm (encode (.adcCImm i8)) s

/-- `ADC D,#i8`, opcode 0xA7 (R311). -/
def mcAdcDImm : Entry := aluImm "ADC D,#i8" .adc .d
/-- The meaning of `ADC D,#i8` (R311). -/
def execAdcDImm (i8 : Byte) (s : State) : Out := runEntry mcAdcDImm (encode (.adcDImm i8)) s

/-- `SUB A,#i8`, opcode 0xA8 (R312). -/
def mcSubAImm : Entry := aluImm "SUB A,#i8" .sub .a
/-- The meaning of `SUB A,#i8` (R312). -/
def execSubAImm (i8 : Byte) (s : State) : Out := runEntry mcSubAImm (encode (.subAImm i8)) s

/-- `SUB B,#i8`, opcode 0xA9 (R312). -/
def mcSubBImm : Entry := aluImm "SUB B,#i8" .sub .b
/-- The meaning of `SUB B,#i8` (R312). -/
def execSubBImm (i8 : Byte) (s : State) : Out := runEntry mcSubBImm (encode (.subBImm i8)) s

/-- `SUB C,#i8`, opcode 0xAA (R312). -/
def mcSubCImm : Entry := aluImm "SUB C,#i8" .sub .c
/-- The meaning of `SUB C,#i8` (R312). -/
def execSubCImm (i8 : Byte) (s : State) : Out := runEntry mcSubCImm (encode (.subCImm i8)) s

/-- `SUB D,#i8`, opcode 0xAB (R312). -/
def mcSubDImm : Entry := aluImm "SUB D,#i8" .sub .d
/-- The meaning of `SUB D,#i8` (R312). -/
def execSubDImm (i8 : Byte) (s : State) : Out := runEntry mcSubDImm (encode (.subDImm i8)) s

/-- `SBB A,#i8`, opcode 0xAC (R313). -/
def mcSbbAImm : Entry := aluImm "SBB A,#i8" .sbb .a
/-- The meaning of `SBB A,#i8` (R313). -/
def execSbbAImm (i8 : Byte) (s : State) : Out := runEntry mcSbbAImm (encode (.sbbAImm i8)) s

/-- `SBB B,#i8`, opcode 0xAD (R313). -/
def mcSbbBImm : Entry := aluImm "SBB B,#i8" .sbb .b
/-- The meaning of `SBB B,#i8` (R313). -/
def execSbbBImm (i8 : Byte) (s : State) : Out := runEntry mcSbbBImm (encode (.sbbBImm i8)) s

/-- `SBB C,#i8`, opcode 0xAE (R313). -/
def mcSbbCImm : Entry := aluImm "SBB C,#i8" .sbb .c
/-- The meaning of `SBB C,#i8` (R313). -/
def execSbbCImm (i8 : Byte) (s : State) : Out := runEntry mcSbbCImm (encode (.sbbCImm i8)) s

/-- `SBB D,#i8`, opcode 0xAF (R313). -/
def mcSbbDImm : Entry := aluImm "SBB D,#i8" .sbb .d
/-- The meaning of `SBB D,#i8` (R313). -/
def execSbbDImm (i8 : Byte) (s : State) : Out := runEntry mcSbbDImm (encode (.sbbDImm i8)) s

/-- `AND A,#i8`, opcode 0xB0 (R314). -/
def mcAndAImm : Entry := aluImm "AND A,#i8" .and .a
/-- The meaning of `AND A,#i8` (R314). -/
def execAndAImm (i8 : Byte) (s : State) : Out := runEntry mcAndAImm (encode (.andAImm i8)) s

/-- `AND B,#i8`, opcode 0xB1 (R314). -/
def mcAndBImm : Entry := aluImm "AND B,#i8" .and .b
/-- The meaning of `AND B,#i8` (R314). -/
def execAndBImm (i8 : Byte) (s : State) : Out := runEntry mcAndBImm (encode (.andBImm i8)) s

/-- `AND C,#i8`, opcode 0xB2 (R314). -/
def mcAndCImm : Entry := aluImm "AND C,#i8" .and .c
/-- The meaning of `AND C,#i8` (R314). -/
def execAndCImm (i8 : Byte) (s : State) : Out := runEntry mcAndCImm (encode (.andCImm i8)) s

/-- `AND D,#i8`, opcode 0xB3 (R314). -/
def mcAndDImm : Entry := aluImm "AND D,#i8" .and .d
/-- The meaning of `AND D,#i8` (R314). -/
def execAndDImm (i8 : Byte) (s : State) : Out := runEntry mcAndDImm (encode (.andDImm i8)) s

/-- `OR A,#i8`, opcode 0xB4 (R315). -/
def mcOrAImm : Entry := aluImm "OR A,#i8" .or .a
/-- The meaning of `OR A,#i8` (R315). -/
def execOrAImm (i8 : Byte) (s : State) : Out := runEntry mcOrAImm (encode (.orAImm i8)) s

/-- `OR B,#i8`, opcode 0xB5 (R315). -/
def mcOrBImm : Entry := aluImm "OR B,#i8" .or .b
/-- The meaning of `OR B,#i8` (R315). -/
def execOrBImm (i8 : Byte) (s : State) : Out := runEntry mcOrBImm (encode (.orBImm i8)) s

/-- `OR C,#i8`, opcode 0xB6 (R315). -/
def mcOrCImm : Entry := aluImm "OR C,#i8" .or .c
/-- The meaning of `OR C,#i8` (R315). -/
def execOrCImm (i8 : Byte) (s : State) : Out := runEntry mcOrCImm (encode (.orCImm i8)) s

/-- `OR D,#i8`, opcode 0xB7 (R315). -/
def mcOrDImm : Entry := aluImm "OR D,#i8" .or .d
/-- The meaning of `OR D,#i8` (R315). -/
def execOrDImm (i8 : Byte) (s : State) : Out := runEntry mcOrDImm (encode (.orDImm i8)) s

/-- `XOR A,#i8`, opcode 0xB8 (R316). -/
def mcXorAImm : Entry := aluImm "XOR A,#i8" .xor .a
/-- The meaning of `XOR A,#i8` (R316). -/
def execXorAImm (i8 : Byte) (s : State) : Out := runEntry mcXorAImm (encode (.xorAImm i8)) s

/-- `XOR B,#i8`, opcode 0xB9 (R316). -/
def mcXorBImm : Entry := aluImm "XOR B,#i8" .xor .b
/-- The meaning of `XOR B,#i8` (R316). -/
def execXorBImm (i8 : Byte) (s : State) : Out := runEntry mcXorBImm (encode (.xorBImm i8)) s

/-- `XOR C,#i8`, opcode 0xBA (R316). -/
def mcXorCImm : Entry := aluImm "XOR C,#i8" .xor .c
/-- The meaning of `XOR C,#i8` (R316). -/
def execXorCImm (i8 : Byte) (s : State) : Out := runEntry mcXorCImm (encode (.xorCImm i8)) s

/-- `XOR D,#i8`, opcode 0xBB (R316). -/
def mcXorDImm : Entry := aluImm "XOR D,#i8" .xor .d
/-- The meaning of `XOR D,#i8` (R316). -/
def execXorDImm (i8 : Byte) (s : State) : Out := runEntry mcXorDImm (encode (.xorDImm i8)) s

/-- `CMP A,#i8`, opcode 0xBC (R317). -/
def mcCmpAImm : Entry := cmpImm "CMP A,#i8" .a
/-- The meaning of `CMP A,#i8` (R317). -/
def execCmpAImm (i8 : Byte) (s : State) : Out := runEntry mcCmpAImm (encode (.cmpAImm i8)) s

/-- `CMP B,#i8`, opcode 0xBD (R317). -/
def mcCmpBImm : Entry := cmpImm "CMP B,#i8" .b
/-- The meaning of `CMP B,#i8` (R317). -/
def execCmpBImm (i8 : Byte) (s : State) : Out := runEntry mcCmpBImm (encode (.cmpBImm i8)) s

/-- `CMP C,#i8`, opcode 0xBE (R317). -/
def mcCmpCImm : Entry := cmpImm "CMP C,#i8" .c
/-- The meaning of `CMP C,#i8` (R317). -/
def execCmpCImm (i8 : Byte) (s : State) : Out := runEntry mcCmpCImm (encode (.cmpCImm i8)) s

/-- `CMP D,#i8`, opcode 0xBF (R317). -/
def mcCmpDImm : Entry := cmpImm "CMP D,#i8" .d
/-- The meaning of `CMP D,#i8` (R317). -/
def execCmpDImm (i8 : Byte) (s : State) : Out := runEntry mcCmpDImm (encode (.cmpDImm i8)) s

/-- `NOT A`, opcode 0xC0 (R319). -/
def mcNotA : Entry := aluUnary "NOT A" .not .a
/-- The meaning of `NOT A` (R319). -/
def execNotA (s : State) : Out := runEntry mcNotA (encode .notA) s

/-- `NOT B`, opcode 0xC1 (R319). -/
def mcNotB : Entry := aluUnary "NOT B" .not .b
/-- The meaning of `NOT B` (R319). -/
def execNotB (s : State) : Out := runEntry mcNotB (encode .notB) s

/-- `NOT C`, opcode 0xC2 (R319). -/
def mcNotC : Entry := aluUnary "NOT C" .not .c
/-- The meaning of `NOT C` (R319). -/
def execNotC (s : State) : Out := runEntry mcNotC (encode .notC) s

/-- `NOT D`, opcode 0xC3 (R319). -/
def mcNotD : Entry := aluUnary "NOT D" .not .d
/-- The meaning of `NOT D` (R319). -/
def execNotD (s : State) : Out := runEntry mcNotD (encode .notD) s

/-- `SHL A`, opcode 0xC4 (R320). -/
def mcShlA : Entry := aluUnary "SHL A" .shl .a
/-- The meaning of `SHL A` (R320). -/
def execShlA (s : State) : Out := runEntry mcShlA (encode .shlA) s

/-- `SHL B`, opcode 0xC5 (R320). -/
def mcShlB : Entry := aluUnary "SHL B" .shl .b
/-- The meaning of `SHL B` (R320). -/
def execShlB (s : State) : Out := runEntry mcShlB (encode .shlB) s

/-- `SHL C`, opcode 0xC6 (R320). -/
def mcShlC : Entry := aluUnary "SHL C" .shl .c
/-- The meaning of `SHL C` (R320). -/
def execShlC (s : State) : Out := runEntry mcShlC (encode .shlC) s

/-- `SHL D`, opcode 0xC7 (R320). -/
def mcShlD : Entry := aluUnary "SHL D" .shl .d
/-- The meaning of `SHL D` (R320). -/
def execShlD (s : State) : Out := runEntry mcShlD (encode .shlD) s

/-- `SHR A`, opcode 0xC8 (R321). -/
def mcShrA : Entry := aluUnary "SHR A" .shr .a
/-- The meaning of `SHR A` (R321). -/
def execShrA (s : State) : Out := runEntry mcShrA (encode .shrA) s

/-- `SHR B`, opcode 0xC9 (R321). -/
def mcShrB : Entry := aluUnary "SHR B" .shr .b
/-- The meaning of `SHR B` (R321). -/
def execShrB (s : State) : Out := runEntry mcShrB (encode .shrB) s

/-- `SHR C`, opcode 0xCA (R321). -/
def mcShrC : Entry := aluUnary "SHR C" .shr .c
/-- The meaning of `SHR C` (R321). -/
def execShrC (s : State) : Out := runEntry mcShrC (encode .shrC) s

/-- `SHR D`, opcode 0xCB (R321). -/
def mcShrD : Entry := aluUnary "SHR D" .shr .d
/-- The meaning of `SHR D` (R321). -/
def execShrD (s : State) : Out := runEntry mcShrD (encode .shrD) s

/-- `CLR A`, opcode 0xCC (R322). -/
def mcClrA : Entry := aluUnary "CLR A" .clr .a
/-- The meaning of `CLR A` (R322). -/
def execClrA (s : State) : Out := runEntry mcClrA (encode .clrA) s

/-- `CLR B`, opcode 0xCD (R322). -/
def mcClrB : Entry := aluUnary "CLR B" .clr .b
/-- The meaning of `CLR B` (R322). -/
def execClrB (s : State) : Out := runEntry mcClrB (encode .clrB) s

/-- `CLR C`, opcode 0xCE (R322). -/
def mcClrC : Entry := aluUnary "CLR C" .clr .c
/-- The meaning of `CLR C` (R322). -/
def execClrC (s : State) : Out := runEntry mcClrC (encode .clrC) s

/-- `CLR D`, opcode 0xCF (R322). -/
def mcClrD : Entry := aluUnary "CLR D" .clr .d
/-- The meaning of `CLR D` (R322). -/
def execClrD (s : State) : Out := runEntry mcClrD (encode .clrD) s

/-- `INC A`, opcode 0xD0 (R323). -/
def mcIncA : Entry := aluUnary "INC A" .inc .a
/-- The meaning of `INC A` (R323). -/
def execIncA (s : State) : Out := runEntry mcIncA (encode .incA) s

/-- `INC B`, opcode 0xD1 (R323). -/
def mcIncB : Entry := aluUnary "INC B" .inc .b
/-- The meaning of `INC B` (R323). -/
def execIncB (s : State) : Out := runEntry mcIncB (encode .incB) s

/-- `INC C`, opcode 0xD2 (R323). -/
def mcIncC : Entry := aluUnary "INC C" .inc .c
/-- The meaning of `INC C` (R323). -/
def execIncC (s : State) : Out := runEntry mcIncC (encode .incC) s

/-- `INC D`, opcode 0xD3 (R323). -/
def mcIncD : Entry := aluUnary "INC D" .inc .d
/-- The meaning of `INC D` (R323). -/
def execIncD (s : State) : Out := runEntry mcIncD (encode .incD) s

/-- `DEC A`, opcode 0xD4 (R324). -/
def mcDecA : Entry := aluUnary "DEC A" .dec .a
/-- The meaning of `DEC A` (R324). -/
def execDecA (s : State) : Out := runEntry mcDecA (encode .decA) s

/-- `DEC B`, opcode 0xD5 (R324). -/
def mcDecB : Entry := aluUnary "DEC B" .dec .b
/-- The meaning of `DEC B` (R324). -/
def execDecB (s : State) : Out := runEntry mcDecB (encode .decB) s

/-- `DEC C`, opcode 0xD6 (R324). -/
def mcDecC : Entry := aluUnary "DEC C" .dec .c
/-- The meaning of `DEC C` (R324). -/
def execDecC (s : State) : Out := runEntry mcDecC (encode .decC) s

/-- `DEC D`, opcode 0xD7 (R324). -/
def mcDecD : Entry := aluUnary "DEC D" .dec .d
/-- The meaning of `DEC D` (R324). -/
def execDecD (s : State) : Out := runEntry mcDecD (encode .decD) s

end Sys2Proof.Machine
end

