-- ==== Sys2Proof/Machine/IoSystem.lean ====
section
/-! DEFINITION. The I/O and system instructions (47_io_system.md): for each instruction its entry of the default table, `mc<Name>`, and
its meaning, `exec<Name>`, the run of that entry's cycles on the instruction's own bytes (42_controller.md R225). -/

namespace Sys2Proof.Machine

open Sys2Proof

/-- `NOP`, opcode 0x00 (R370). -/
def mcNop : Entry := noOperation "NOP"
/-- The meaning of `NOP` (R370). -/
def execNop (s : State) : Out := runEntry mcNop (encode .nop) s

/-- `IN A,#0`, opcode 0xE0 (R371). -/
def mcInA0 : Entry := inputChannel "IN A,#0" .a 0#4
/-- The meaning of `IN A,#0` (R371). -/
def execInA0 (s : State) : Out := runEntry mcInA0 (encode .inA0) s

/-- `IN A,#1`, opcode 0xE1 (R371). -/
def mcInA1 : Entry := inputChannel "IN A,#1" .a 1#4
/-- The meaning of `IN A,#1` (R371). -/
def execInA1 (s : State) : Out := runEntry mcInA1 (encode .inA1) s

/-- `IN B,#0`, opcode 0xE2 (R371). -/
def mcInB0 : Entry := inputChannel "IN B,#0" .b 0#4
/-- The meaning of `IN B,#0` (R371). -/
def execInB0 (s : State) : Out := runEntry mcInB0 (encode .inB0) s

/-- `IN B,#1`, opcode 0xE3 (R371). -/
def mcInB1 : Entry := inputChannel "IN B,#1" .b 1#4
/-- The meaning of `IN B,#1` (R371). -/
def execInB1 (s : State) : Out := runEntry mcInB1 (encode .inB1) s

/-- `IN C,#0`, opcode 0xE4 (R371). -/
def mcInC0 : Entry := inputChannel "IN C,#0" .c 0#4
/-- The meaning of `IN C,#0` (R371). -/
def execInC0 (s : State) : Out := runEntry mcInC0 (encode .inC0) s

/-- `IN C,#1`, opcode 0xE5 (R371). -/
def mcInC1 : Entry := inputChannel "IN C,#1" .c 1#4
/-- The meaning of `IN C,#1` (R371). -/
def execInC1 (s : State) : Out := runEntry mcInC1 (encode .inC1) s

/-- `IN D,#0`, opcode 0xE6 (R371). -/
def mcInD0 : Entry := inputChannel "IN D,#0" .d 0#4
/-- The meaning of `IN D,#0` (R371). -/
def execInD0 (s : State) : Out := runEntry mcInD0 (encode .inD0) s

/-- `IN D,#1`, opcode 0xE7 (R371). -/
def mcInD1 : Entry := inputChannel "IN D,#1" .d 1#4
/-- The meaning of `IN D,#1` (R371). -/
def execInD1 (s : State) : Out := runEntry mcInD1 (encode .inD1) s

/-- `OUT #0,A`, opcode 0xE8 (R372). -/
def mcOut0A : Entry := outputChannel "OUT #0,A" 0#4 .a
/-- The meaning of `OUT #0,A` (R372). -/
def execOut0A (s : State) : Out := runEntry mcOut0A (encode .out0A) s

/-- `OUT #1,A`, opcode 0xE9 (R372). -/
def mcOut1A : Entry := outputChannel "OUT #1,A" 1#4 .a
/-- The meaning of `OUT #1,A` (R372). -/
def execOut1A (s : State) : Out := runEntry mcOut1A (encode .out1A) s

/-- `OUT #0,B`, opcode 0xEA (R372). -/
def mcOut0B : Entry := outputChannel "OUT #0,B" 0#4 .b
/-- The meaning of `OUT #0,B` (R372). -/
def execOut0B (s : State) : Out := runEntry mcOut0B (encode .out0B) s

/-- `OUT #1,B`, opcode 0xEB (R372). -/
def mcOut1B : Entry := outputChannel "OUT #1,B" 1#4 .b
/-- The meaning of `OUT #1,B` (R372). -/
def execOut1B (s : State) : Out := runEntry mcOut1B (encode .out1B) s

/-- `OUT #0,C`, opcode 0xEC (R372). -/
def mcOut0C : Entry := outputChannel "OUT #0,C" 0#4 .c
/-- The meaning of `OUT #0,C` (R372). -/
def execOut0C (s : State) : Out := runEntry mcOut0C (encode .out0C) s

/-- `OUT #1,C`, opcode 0xED (R372). -/
def mcOut1C : Entry := outputChannel "OUT #1,C" 1#4 .c
/-- The meaning of `OUT #1,C` (R372). -/
def execOut1C (s : State) : Out := runEntry mcOut1C (encode .out1C) s

/-- `OUT #0,D`, opcode 0xEE (R372). -/
def mcOut0D : Entry := outputChannel "OUT #0,D" 0#4 .d
/-- The meaning of `OUT #0,D` (R372). -/
def execOut0D (s : State) : Out := runEntry mcOut0D (encode .out0D) s

/-- `OUT #1,D`, opcode 0xEF (R372). -/
def mcOut1D : Entry := outputChannel "OUT #1,D" 1#4 .d
/-- The meaning of `OUT #1,D` (R372). -/
def execOut1D (s : State) : Out := runEntry mcOut1D (encode .out1D) s

/-- `HLT`, opcode 0xFF (R373). -/
def mcHlt : Entry := haltRun "HLT"
/-- The meaning of `HLT` (R373). -/
def execHlt (s : State) : Out := runEntry mcHlt (encode .hlt) s

end Sys2Proof.Machine
end

