-- ==== Sys2Proof/Machine/Jump.lean ====
section
/-! DEFINITION. The control-flow instructions (46_control_flow.md): for each instruction its entry of the default table, `mc<Name>`, and
its meaning, `exec<Name>`, the run of that entry's cycles on the instruction's own bytes (42_controller.md R225). -/

namespace Sys2Proof.Machine

open Sys2Proof

/-- `JMP #i16`, opcode 0x60 (R350). -/
def mcJmp : Entry := jumpImm "JMP #i16"
/-- The meaning of `JMP #i16` (R350). -/
def execJmp (i16 : Word) (s : State) : Out := runEntry mcJmp (encode (.jmp i16)) s

/-- `JZ #i16`, opcode 0x61 (R352). -/
def mcJz : Entry := jumpCond "JZ #i16" 0x01#8 .and
/-- The meaning of `JZ #i16` (R352). -/
def execJz (i16 : Word) (s : State) : Out := runEntry mcJz (encode (.jz i16)) s

/-- `JNZ #i16`, opcode 0x62 (R353). -/
def mcJnz : Entry := jumpCond "JNZ #i16" 0x01#8 .nand
/-- The meaning of `JNZ #i16` (R353). -/
def execJnz (i16 : Word) (s : State) : Out := runEntry mcJnz (encode (.jnz i16)) s

/-- `JC #i16`, opcode 0x63 (R354). -/
def mcJc : Entry := jumpCond "JC #i16" 0x02#8 .and
/-- The meaning of `JC #i16` (R354). -/
def execJc (i16 : Word) (s : State) : Out := runEntry mcJc (encode (.jc i16)) s

/-- `JNC #i16`, opcode 0x64 (R355). -/
def mcJnc : Entry := jumpCond "JNC #i16" 0x02#8 .nand
/-- The meaning of `JNC #i16` (R355). -/
def execJnc (i16 : Word) (s : State) : Out := runEntry mcJnc (encode (.jnc i16)) s

/-- `JV #i16`, opcode 0x65 (R356). -/
def mcJv : Entry := jumpCond "JV #i16" 0x04#8 .and
/-- The meaning of `JV #i16` (R356). -/
def execJv (i16 : Word) (s : State) : Out := runEntry mcJv (encode (.jv i16)) s

/-- `JNV #i16`, opcode 0x66 (R357). -/
def mcJnv : Entry := jumpCond "JNV #i16" 0x04#8 .nand
/-- The meaning of `JNV #i16` (R357). -/
def execJnv (i16 : Word) (s : State) : Out := runEntry mcJnv (encode (.jnv i16)) s

/-- `CALL #i16`, opcode 0x67 (R358). -/
def mcCall : Entry := callImm "CALL #i16"
/-- The meaning of `CALL #i16` (R358). -/
def execCall (i16 : Word) (s : State) : Out := runEntry mcCall (encode (.call i16)) s

/-- `RET`, opcode 0x68 (R359). -/
def mcRet : Entry := pop16 "RET" .pc
/-- The meaning of `RET` (R359). -/
def execRet (s : State) : Out := runEntry mcRet (encode .ret) s

end Sys2Proof.Machine
end

