-- ==== Sys2Proof/Machine/Move.lean ====
section
/-! DEFINITION. Data movement, MOV in every form (43_data_movement.md): for each instruction its entry of the default table, `mc<Name>`, and
its meaning, `exec<Name>`, the run of that entry's cycles on the instruction's own bytes (42_controller.md R225). -/

namespace Sys2Proof.Machine

open Sys2Proof

/-- `MOV A,#i8`, opcode 0x01 (R270). -/
def mcMovAImm : Entry := loadImm8 "MOV A,#i8" .a
/-- The meaning of `MOV A,#i8` (R270). -/
def execMovAImm (i8 : Byte) (s : State) : Out := runEntry mcMovAImm (encode (.movAImm i8)) s

/-- `MOV B,#i8`, opcode 0x02 (R270). -/
def mcMovBImm : Entry := loadImm8 "MOV B,#i8" .b
/-- The meaning of `MOV B,#i8` (R270). -/
def execMovBImm (i8 : Byte) (s : State) : Out := runEntry mcMovBImm (encode (.movBImm i8)) s

/-- `MOV C,#i8`, opcode 0x03 (R270). -/
def mcMovCImm : Entry := loadImm8 "MOV C,#i8" .c
/-- The meaning of `MOV C,#i8` (R270). -/
def execMovCImm (i8 : Byte) (s : State) : Out := runEntry mcMovCImm (encode (.movCImm i8)) s

/-- `MOV D,#i8`, opcode 0x04 (R270). -/
def mcMovDImm : Entry := loadImm8 "MOV D,#i8" .d
/-- The meaning of `MOV D,#i8` (R270). -/
def execMovDImm (i8 : Byte) (s : State) : Out := runEntry mcMovDImm (encode (.movDImm i8)) s

/-- `MOV A,[a16]`, opcode 0x05 (R271). -/
def mcMovAMem : Entry := loadAbs8 "MOV A,[a16]" .a
/-- The meaning of `MOV A,[a16]` (R271). -/
def execMovAMem (a16 : Word) (s : State) : Out := runEntry mcMovAMem (encode (.movAMem a16)) s

/-- `MOV B,[a16]`, opcode 0x06 (R271). -/
def mcMovBMem : Entry := loadAbs8 "MOV B,[a16]" .b
/-- The meaning of `MOV B,[a16]` (R271). -/
def execMovBMem (a16 : Word) (s : State) : Out := runEntry mcMovBMem (encode (.movBMem a16)) s

/-- `MOV C,[a16]`, opcode 0x07 (R271). -/
def mcMovCMem : Entry := loadAbs8 "MOV C,[a16]" .c
/-- The meaning of `MOV C,[a16]` (R271). -/
def execMovCMem (a16 : Word) (s : State) : Out := runEntry mcMovCMem (encode (.movCMem a16)) s

/-- `MOV D,[a16]`, opcode 0x08 (R271). -/
def mcMovDMem : Entry := loadAbs8 "MOV D,[a16]" .d
/-- The meaning of `MOV D,[a16]` (R271). -/
def execMovDMem (a16 : Word) (s : State) : Out := runEntry mcMovDMem (encode (.movDMem a16)) s

/-- `MOV [a16],A`, opcode 0x09 (R272). -/
def mcMovMemA : Entry := storeAbs8 "MOV [a16],A" .a
/-- The meaning of `MOV [a16],A` (R272). -/
def execMovMemA (a16 : Word) (s : State) : Out := runEntry mcMovMemA (encode (.movMemA a16)) s

/-- `MOV [a16],B`, opcode 0x0A (R272). -/
def mcMovMemB : Entry := storeAbs8 "MOV [a16],B" .b
/-- The meaning of `MOV [a16],B` (R272). -/
def execMovMemB (a16 : Word) (s : State) : Out := runEntry mcMovMemB (encode (.movMemB a16)) s

/-- `MOV [a16],C`, opcode 0x0B (R272). -/
def mcMovMemC : Entry := storeAbs8 "MOV [a16],C" .c
/-- The meaning of `MOV [a16],C` (R272). -/
def execMovMemC (a16 : Word) (s : State) : Out := runEntry mcMovMemC (encode (.movMemC a16)) s

/-- `MOV [a16],D`, opcode 0x0C (R272). -/
def mcMovMemD : Entry := storeAbs8 "MOV [a16],D" .d
/-- The meaning of `MOV [a16],D` (R272). -/
def execMovMemD (a16 : Word) (s : State) : Out := runEntry mcMovMemD (encode (.movMemD a16)) s

/-- `MOV A,B`, opcode 0x0D (R273). -/
def mcMovAB : Entry := copy8 "MOV A,B" .a .b
/-- The meaning of `MOV A,B` (R273). -/
def execMovAB (s : State) : Out := runEntry mcMovAB (encode .movAB) s

/-- `MOV A,C`, opcode 0x0E (R273). -/
def mcMovAC : Entry := copy8 "MOV A,C" .a .c
/-- The meaning of `MOV A,C` (R273). -/
def execMovAC (s : State) : Out := runEntry mcMovAC (encode .movAC) s

/-- `MOV A,D`, opcode 0x0F (R273). -/
def mcMovAD : Entry := copy8 "MOV A,D" .a .d
/-- The meaning of `MOV A,D` (R273). -/
def execMovAD (s : State) : Out := runEntry mcMovAD (encode .movAD) s

/-- `MOV B,A`, opcode 0x10 (R273). -/
def mcMovBA : Entry := copy8 "MOV B,A" .b .a
/-- The meaning of `MOV B,A` (R273). -/
def execMovBA (s : State) : Out := runEntry mcMovBA (encode .movBA) s

/-- `MOV B,C`, opcode 0x11 (R273). -/
def mcMovBC : Entry := copy8 "MOV B,C" .b .c
/-- The meaning of `MOV B,C` (R273). -/
def execMovBC (s : State) : Out := runEntry mcMovBC (encode .movBC) s

/-- `MOV B,D`, opcode 0x12 (R273). -/
def mcMovBD : Entry := copy8 "MOV B,D" .b .d
/-- The meaning of `MOV B,D` (R273). -/
def execMovBD (s : State) : Out := runEntry mcMovBD (encode .movBD) s

/-- `MOV C,A`, opcode 0x13 (R273). -/
def mcMovCA : Entry := copy8 "MOV C,A" .c .a
/-- The meaning of `MOV C,A` (R273). -/
def execMovCA (s : State) : Out := runEntry mcMovCA (encode .movCA) s

/-- `MOV C,B`, opcode 0x14 (R273). -/
def mcMovCB : Entry := copy8 "MOV C,B" .c .b
/-- The meaning of `MOV C,B` (R273). -/
def execMovCB (s : State) : Out := runEntry mcMovCB (encode .movCB) s

/-- `MOV C,D`, opcode 0x15 (R273). -/
def mcMovCD : Entry := copy8 "MOV C,D" .c .d
/-- The meaning of `MOV C,D` (R273). -/
def execMovCD (s : State) : Out := runEntry mcMovCD (encode .movCD) s

/-- `MOV D,A`, opcode 0x16 (R273). -/
def mcMovDA : Entry := copy8 "MOV D,A" .d .a
/-- The meaning of `MOV D,A` (R273). -/
def execMovDA (s : State) : Out := runEntry mcMovDA (encode .movDA) s

/-- `MOV D,B`, opcode 0x17 (R273). -/
def mcMovDB : Entry := copy8 "MOV D,B" .d .b
/-- The meaning of `MOV D,B` (R273). -/
def execMovDB (s : State) : Out := runEntry mcMovDB (encode .movDB) s

/-- `MOV D,C`, opcode 0x18 (R273). -/
def mcMovDC : Entry := copy8 "MOV D,C" .d .c
/-- The meaning of `MOV D,C` (R273). -/
def execMovDC (s : State) : Out := runEntry mcMovDC (encode .movDC) s

/-- `MOV SP,#i16`, opcode 0x19 (R274). -/
def mcMovSpImm : Entry := loadImm16 "MOV SP,#i16" .sp
/-- The meaning of `MOV SP,#i16` (R274). -/
def execMovSpImm (i16 : Word) (s : State) : Out := runEntry mcMovSpImm (encode (.movSpImm i16)) s

/-- `MOV BP,#i16`, opcode 0x1A (R274). -/
def mcMovBpImm : Entry := loadImm16 "MOV BP,#i16" .bp
/-- The meaning of `MOV BP,#i16` (R274). -/
def execMovBpImm (i16 : Word) (s : State) : Out := runEntry mcMovBpImm (encode (.movBpImm i16)) s

/-- `MOV SI,#i16`, opcode 0x1B (R274). -/
def mcMovSiImm : Entry := loadImm16 "MOV SI,#i16" .si
/-- The meaning of `MOV SI,#i16` (R274). -/
def execMovSiImm (i16 : Word) (s : State) : Out := runEntry mcMovSiImm (encode (.movSiImm i16)) s

/-- `MOV DI,#i16`, opcode 0x1C (R274). -/
def mcMovDiImm : Entry := loadImm16 "MOV DI,#i16" .di
/-- The meaning of `MOV DI,#i16` (R274). -/
def execMovDiImm (i16 : Word) (s : State) : Out := runEntry mcMovDiImm (encode (.movDiImm i16)) s

/-- `MOV SP,[a16]`, opcode 0x1D (R275). -/
def mcMovSpMem : Entry := loadAbs16 "MOV SP,[a16]" .sp
/-- The meaning of `MOV SP,[a16]` (R275). -/
def execMovSpMem (a16 : Word) (s : State) : Out := runEntry mcMovSpMem (encode (.movSpMem a16)) s

/-- `MOV BP,[a16]`, opcode 0x1E (R275). -/
def mcMovBpMem : Entry := loadAbs16 "MOV BP,[a16]" .bp
/-- The meaning of `MOV BP,[a16]` (R275). -/
def execMovBpMem (a16 : Word) (s : State) : Out := runEntry mcMovBpMem (encode (.movBpMem a16)) s

/-- `MOV SI,[a16]`, opcode 0x1F (R275). -/
def mcMovSiMem : Entry := loadAbs16 "MOV SI,[a16]" .si
/-- The meaning of `MOV SI,[a16]` (R275). -/
def execMovSiMem (a16 : Word) (s : State) : Out := runEntry mcMovSiMem (encode (.movSiMem a16)) s

/-- `MOV DI,[a16]`, opcode 0x20 (R275). -/
def mcMovDiMem : Entry := loadAbs16 "MOV DI,[a16]" .di
/-- The meaning of `MOV DI,[a16]` (R275). -/
def execMovDiMem (a16 : Word) (s : State) : Out := runEntry mcMovDiMem (encode (.movDiMem a16)) s

/-- `MOV [a16],SP`, opcode 0x21 (R278). -/
def mcMovMemSp : Entry := storeAbs16 "MOV [a16],SP" .sp
/-- The meaning of `MOV [a16],SP` (R278). -/
def execMovMemSp (a16 : Word) (s : State) : Out := runEntry mcMovMemSp (encode (.movMemSp a16)) s

/-- `MOV [a16],BP`, opcode 0x22 (R278). -/
def mcMovMemBp : Entry := storeAbs16 "MOV [a16],BP" .bp
/-- The meaning of `MOV [a16],BP` (R278). -/
def execMovMemBp (a16 : Word) (s : State) : Out := runEntry mcMovMemBp (encode (.movMemBp a16)) s

/-- `MOV [a16],SI`, opcode 0x23 (R278). -/
def mcMovMemSi : Entry := storeAbs16 "MOV [a16],SI" .si
/-- The meaning of `MOV [a16],SI` (R278). -/
def execMovMemSi (a16 : Word) (s : State) : Out := runEntry mcMovMemSi (encode (.movMemSi a16)) s

/-- `MOV [a16],DI`, opcode 0x24 (R278). -/
def mcMovMemDi : Entry := storeAbs16 "MOV [a16],DI" .di
/-- The meaning of `MOV [a16],DI` (R278). -/
def execMovMemDi (a16 : Word) (s : State) : Out := runEntry mcMovMemDi (encode (.movMemDi a16)) s

/-- `MOV SP,BP`, opcode 0x25 (R276). -/
def mcMovSpBp : Entry := copy16 "MOV SP,BP" .sp .bp
/-- The meaning of `MOV SP,BP` (R276). -/
def execMovSpBp (s : State) : Out := runEntry mcMovSpBp (encode .movSpBp) s

/-- `MOV SP,SI`, opcode 0x26 (R276). -/
def mcMovSpSi : Entry := copy16 "MOV SP,SI" .sp .si
/-- The meaning of `MOV SP,SI` (R276). -/
def execMovSpSi (s : State) : Out := runEntry mcMovSpSi (encode .movSpSi) s

/-- `MOV SP,DI`, opcode 0x27 (R276). -/
def mcMovSpDi : Entry := copy16 "MOV SP,DI" .sp .di
/-- The meaning of `MOV SP,DI` (R276). -/
def execMovSpDi (s : State) : Out := runEntry mcMovSpDi (encode .movSpDi) s

/-- `MOV BP,SP`, opcode 0x28 (R276). -/
def mcMovBpSp : Entry := copy16 "MOV BP,SP" .bp .sp
/-- The meaning of `MOV BP,SP` (R276). -/
def execMovBpSp (s : State) : Out := runEntry mcMovBpSp (encode .movBpSp) s

/-- `MOV BP,SI`, opcode 0x29 (R276). -/
def mcMovBpSi : Entry := copy16 "MOV BP,SI" .bp .si
/-- The meaning of `MOV BP,SI` (R276). -/
def execMovBpSi (s : State) : Out := runEntry mcMovBpSi (encode .movBpSi) s

/-- `MOV BP,DI`, opcode 0x2A (R276). -/
def mcMovBpDi : Entry := copy16 "MOV BP,DI" .bp .di
/-- The meaning of `MOV BP,DI` (R276). -/
def execMovBpDi (s : State) : Out := runEntry mcMovBpDi (encode .movBpDi) s

/-- `MOV SI,SP`, opcode 0x2B (R276). -/
def mcMovSiSp : Entry := copy16 "MOV SI,SP" .si .sp
/-- The meaning of `MOV SI,SP` (R276). -/
def execMovSiSp (s : State) : Out := runEntry mcMovSiSp (encode .movSiSp) s

/-- `MOV SI,BP`, opcode 0x2C (R276). -/
def mcMovSiBp : Entry := copy16 "MOV SI,BP" .si .bp
/-- The meaning of `MOV SI,BP` (R276). -/
def execMovSiBp (s : State) : Out := runEntry mcMovSiBp (encode .movSiBp) s

/-- `MOV SI,DI`, opcode 0x2D (R276). -/
def mcMovSiDi : Entry := copy16 "MOV SI,DI" .si .di
/-- The meaning of `MOV SI,DI` (R276). -/
def execMovSiDi (s : State) : Out := runEntry mcMovSiDi (encode .movSiDi) s

/-- `MOV DI,SP`, opcode 0x2E (R276). -/
def mcMovDiSp : Entry := copy16 "MOV DI,SP" .di .sp
/-- The meaning of `MOV DI,SP` (R276). -/
def execMovDiSp (s : State) : Out := runEntry mcMovDiSp (encode .movDiSp) s

/-- `MOV DI,BP`, opcode 0x2F (R276). -/
def mcMovDiBp : Entry := copy16 "MOV DI,BP" .di .bp
/-- The meaning of `MOV DI,BP` (R276). -/
def execMovDiBp (s : State) : Out := runEntry mcMovDiBp (encode .movDiBp) s

/-- `MOV DI,SI`, opcode 0x30 (R276). -/
def mcMovDiSi : Entry := copy16 "MOV DI,SI" .di .si
/-- The meaning of `MOV DI,SI` (R276). -/
def execMovDiSi (s : State) : Out := runEntry mcMovDiSi (encode .movDiSi) s

/-- `MOV A,BP[d8]`, opcode 0x31 (R277). -/
def mcMovABpIdx : Entry := loadIdx8 "MOV A,BP[d8]" .a .bp
/-- The meaning of `MOV A,BP[d8]` (R277). -/
def execMovABpIdx (d8 : Byte) (s : State) : Out := runEntry mcMovABpIdx (encode (.movABpIdx d8)) s

/-- `MOV A,SI[d8]`, opcode 0x32 (R277). -/
def mcMovASiIdx : Entry := loadIdx8 "MOV A,SI[d8]" .a .si
/-- The meaning of `MOV A,SI[d8]` (R277). -/
def execMovASiIdx (d8 : Byte) (s : State) : Out := runEntry mcMovASiIdx (encode (.movASiIdx d8)) s

/-- `MOV A,DI[d8]`, opcode 0x33 (R277). -/
def mcMovADiIdx : Entry := loadIdx8 "MOV A,DI[d8]" .a .di
/-- The meaning of `MOV A,DI[d8]` (R277). -/
def execMovADiIdx (d8 : Byte) (s : State) : Out := runEntry mcMovADiIdx (encode (.movADiIdx d8)) s

/-- `MOV B,BP[d8]`, opcode 0x34 (R277). -/
def mcMovBBpIdx : Entry := loadIdx8 "MOV B,BP[d8]" .b .bp
/-- The meaning of `MOV B,BP[d8]` (R277). -/
def execMovBBpIdx (d8 : Byte) (s : State) : Out := runEntry mcMovBBpIdx (encode (.movBBpIdx d8)) s

/-- `MOV B,SI[d8]`, opcode 0x35 (R277). -/
def mcMovBSiIdx : Entry := loadIdx8 "MOV B,SI[d8]" .b .si
/-- The meaning of `MOV B,SI[d8]` (R277). -/
def execMovBSiIdx (d8 : Byte) (s : State) : Out := runEntry mcMovBSiIdx (encode (.movBSiIdx d8)) s

/-- `MOV B,DI[d8]`, opcode 0x36 (R277). -/
def mcMovBDiIdx : Entry := loadIdx8 "MOV B,DI[d8]" .b .di
/-- The meaning of `MOV B,DI[d8]` (R277). -/
def execMovBDiIdx (d8 : Byte) (s : State) : Out := runEntry mcMovBDiIdx (encode (.movBDiIdx d8)) s

/-- `MOV C,BP[d8]`, opcode 0x37 (R277). -/
def mcMovCBpIdx : Entry := loadIdx8 "MOV C,BP[d8]" .c .bp
/-- The meaning of `MOV C,BP[d8]` (R277). -/
def execMovCBpIdx (d8 : Byte) (s : State) : Out := runEntry mcMovCBpIdx (encode (.movCBpIdx d8)) s

/-- `MOV C,SI[d8]`, opcode 0x38 (R277). -/
def mcMovCSiIdx : Entry := loadIdx8 "MOV C,SI[d8]" .c .si
/-- The meaning of `MOV C,SI[d8]` (R277). -/
def execMovCSiIdx (d8 : Byte) (s : State) : Out := runEntry mcMovCSiIdx (encode (.movCSiIdx d8)) s

/-- `MOV C,DI[d8]`, opcode 0x39 (R277). -/
def mcMovCDiIdx : Entry := loadIdx8 "MOV C,DI[d8]" .c .di
/-- The meaning of `MOV C,DI[d8]` (R277). -/
def execMovCDiIdx (d8 : Byte) (s : State) : Out := runEntry mcMovCDiIdx (encode (.movCDiIdx d8)) s

/-- `MOV D,BP[d8]`, opcode 0x3A (R277). -/
def mcMovDBpIdx : Entry := loadIdx8 "MOV D,BP[d8]" .d .bp
/-- The meaning of `MOV D,BP[d8]` (R277). -/
def execMovDBpIdx (d8 : Byte) (s : State) : Out := runEntry mcMovDBpIdx (encode (.movDBpIdx d8)) s

/-- `MOV D,SI[d8]`, opcode 0x3B (R277). -/
def mcMovDSiIdx : Entry := loadIdx8 "MOV D,SI[d8]" .d .si
/-- The meaning of `MOV D,SI[d8]` (R277). -/
def execMovDSiIdx (d8 : Byte) (s : State) : Out := runEntry mcMovDSiIdx (encode (.movDSiIdx d8)) s

/-- `MOV D,DI[d8]`, opcode 0x3C (R277). -/
def mcMovDDiIdx : Entry := loadIdx8 "MOV D,DI[d8]" .d .di
/-- The meaning of `MOV D,DI[d8]` (R277). -/
def execMovDDiIdx (d8 : Byte) (s : State) : Out := runEntry mcMovDDiIdx (encode (.movDDiIdx d8)) s

/-- `MOV BP[d8],A`, opcode 0x3D (R279). -/
def mcMovBpIdxA : Entry := storeIdx8 "MOV BP[d8],A" .bp .a
/-- The meaning of `MOV BP[d8],A` (R279). -/
def execMovBpIdxA (d8 : Byte) (s : State) : Out := runEntry mcMovBpIdxA (encode (.movBpIdxA d8)) s

/-- `MOV SI[d8],A`, opcode 0x3E (R279). -/
def mcMovSiIdxA : Entry := storeIdx8 "MOV SI[d8],A" .si .a
/-- The meaning of `MOV SI[d8],A` (R279). -/
def execMovSiIdxA (d8 : Byte) (s : State) : Out := runEntry mcMovSiIdxA (encode (.movSiIdxA d8)) s

/-- `MOV DI[d8],A`, opcode 0x3F (R279). -/
def mcMovDiIdxA : Entry := storeIdx8 "MOV DI[d8],A" .di .a
/-- The meaning of `MOV DI[d8],A` (R279). -/
def execMovDiIdxA (d8 : Byte) (s : State) : Out := runEntry mcMovDiIdxA (encode (.movDiIdxA d8)) s

/-- `MOV BP[d8],B`, opcode 0x40 (R279). -/
def mcMovBpIdxB : Entry := storeIdx8 "MOV BP[d8],B" .bp .b
/-- The meaning of `MOV BP[d8],B` (R279). -/
def execMovBpIdxB (d8 : Byte) (s : State) : Out := runEntry mcMovBpIdxB (encode (.movBpIdxB d8)) s

/-- `MOV SI[d8],B`, opcode 0x41 (R279). -/
def mcMovSiIdxB : Entry := storeIdx8 "MOV SI[d8],B" .si .b
/-- The meaning of `MOV SI[d8],B` (R279). -/
def execMovSiIdxB (d8 : Byte) (s : State) : Out := runEntry mcMovSiIdxB (encode (.movSiIdxB d8)) s

/-- `MOV DI[d8],B`, opcode 0x42 (R279). -/
def mcMovDiIdxB : Entry := storeIdx8 "MOV DI[d8],B" .di .b
/-- The meaning of `MOV DI[d8],B` (R279). -/
def execMovDiIdxB (d8 : Byte) (s : State) : Out := runEntry mcMovDiIdxB (encode (.movDiIdxB d8)) s

/-- `MOV BP[d8],C`, opcode 0x43 (R279). -/
def mcMovBpIdxC : Entry := storeIdx8 "MOV BP[d8],C" .bp .c
/-- The meaning of `MOV BP[d8],C` (R279). -/
def execMovBpIdxC (d8 : Byte) (s : State) : Out := runEntry mcMovBpIdxC (encode (.movBpIdxC d8)) s

/-- `MOV SI[d8],C`, opcode 0x44 (R279). -/
def mcMovSiIdxC : Entry := storeIdx8 "MOV SI[d8],C" .si .c
/-- The meaning of `MOV SI[d8],C` (R279). -/
def execMovSiIdxC (d8 : Byte) (s : State) : Out := runEntry mcMovSiIdxC (encode (.movSiIdxC d8)) s

/-- `MOV DI[d8],C`, opcode 0x45 (R279). -/
def mcMovDiIdxC : Entry := storeIdx8 "MOV DI[d8],C" .di .c
/-- The meaning of `MOV DI[d8],C` (R279). -/
def execMovDiIdxC (d8 : Byte) (s : State) : Out := runEntry mcMovDiIdxC (encode (.movDiIdxC d8)) s

/-- `MOV BP[d8],D`, opcode 0x46 (R279). -/
def mcMovBpIdxD : Entry := storeIdx8 "MOV BP[d8],D" .bp .d
/-- The meaning of `MOV BP[d8],D` (R279). -/
def execMovBpIdxD (d8 : Byte) (s : State) : Out := runEntry mcMovBpIdxD (encode (.movBpIdxD d8)) s

/-- `MOV SI[d8],D`, opcode 0x47 (R279). -/
def mcMovSiIdxD : Entry := storeIdx8 "MOV SI[d8],D" .si .d
/-- The meaning of `MOV SI[d8],D` (R279). -/
def execMovSiIdxD (d8 : Byte) (s : State) : Out := runEntry mcMovSiIdxD (encode (.movSiIdxD d8)) s

/-- `MOV DI[d8],D`, opcode 0x48 (R279). -/
def mcMovDiIdxD : Entry := storeIdx8 "MOV DI[d8],D" .di .d
/-- The meaning of `MOV DI[d8],D` (R279). -/
def execMovDiIdxD (d8 : Byte) (s : State) : Out := runEntry mcMovDiIdxD (encode (.movDiIdxD d8)) s

/-- `MOV SI,BP[d8]`, opcode 0x49 (R280). -/
def mcMovSiBpIdx : Entry := loadIdx16 "MOV SI,BP[d8]" .si
/-- The meaning of `MOV SI,BP[d8]` (R280). -/
def execMovSiBpIdx (d8 : Byte) (s : State) : Out := runEntry mcMovSiBpIdx (encode (.movSiBpIdx d8)) s

/-- `MOV DI,BP[d8]`, opcode 0x4A (R280). -/
def mcMovDiBpIdx : Entry := loadIdx16 "MOV DI,BP[d8]" .di
/-- The meaning of `MOV DI,BP[d8]` (R280). -/
def execMovDiBpIdx (d8 : Byte) (s : State) : Out := runEntry mcMovDiBpIdx (encode (.movDiBpIdx d8)) s

/-- `MOV BP[d8],SI`, opcode 0x4B (R281). -/
def mcMovBpIdxSi : Entry := storeIdx16 "MOV BP[d8],SI" .si
/-- The meaning of `MOV BP[d8],SI` (R281). -/
def execMovBpIdxSi (d8 : Byte) (s : State) : Out := runEntry mcMovBpIdxSi (encode (.movBpIdxSi d8)) s

/-- `MOV BP[d8],DI`, opcode 0x4C (R281). -/
def mcMovBpIdxDi : Entry := storeIdx16 "MOV BP[d8],DI" .di
/-- The meaning of `MOV BP[d8],DI` (R281). -/
def execMovBpIdxDi (d8 : Byte) (s : State) : Out := runEntry mcMovBpIdxDi (encode (.movBpIdxDi d8)) s

end Sys2Proof.Machine
end

