-- ==== Sys2Proof/Machine/Stack.lean ====
section
/-! DEFINITION. The stack instructions (45_stack.md): for each instruction its entry of the default table, `mc<Name>`, and
its meaning, `exec<Name>`, the run of that entry's cycles on the instruction's own bytes (42_controller.md R225). -/

namespace Sys2Proof.Machine

open Sys2Proof

/-- `PUSH A`, opcode 0x50 (R331). -/
def mcPushA : Entry := push8 "PUSH A" .a
/-- The meaning of `PUSH A` (R331). -/
def execPushA (s : State) : Out := runEntry mcPushA (encode .pushA) s

/-- `PUSH B`, opcode 0x51 (R331). -/
def mcPushB : Entry := push8 "PUSH B" .b
/-- The meaning of `PUSH B` (R331). -/
def execPushB (s : State) : Out := runEntry mcPushB (encode .pushB) s

/-- `PUSH C`, opcode 0x52 (R331). -/
def mcPushC : Entry := push8 "PUSH C" .c
/-- The meaning of `PUSH C` (R331). -/
def execPushC (s : State) : Out := runEntry mcPushC (encode .pushC) s

/-- `PUSH D`, opcode 0x53 (R331). -/
def mcPushD : Entry := push8 "PUSH D" .d
/-- The meaning of `PUSH D` (R331). -/
def execPushD (s : State) : Out := runEntry mcPushD (encode .pushD) s

/-- `POP A`, opcode 0x54 (R332). -/
def mcPopA : Entry := pop8 "POP A" .a
/-- The meaning of `POP A` (R332). -/
def execPopA (s : State) : Out := runEntry mcPopA (encode .popA) s

/-- `POP B`, opcode 0x55 (R332). -/
def mcPopB : Entry := pop8 "POP B" .b
/-- The meaning of `POP B` (R332). -/
def execPopB (s : State) : Out := runEntry mcPopB (encode .popB) s

/-- `POP C`, opcode 0x56 (R332). -/
def mcPopC : Entry := pop8 "POP C" .c
/-- The meaning of `POP C` (R332). -/
def execPopC (s : State) : Out := runEntry mcPopC (encode .popC) s

/-- `POP D`, opcode 0x57 (R332). -/
def mcPopD : Entry := pop8 "POP D" .d
/-- The meaning of `POP D` (R332). -/
def execPopD (s : State) : Out := runEntry mcPopD (encode .popD) s

/-- `PUSH BP`, opcode 0x58 (R334). -/
def mcPushBp : Entry := push16 "PUSH BP" .bp
/-- The meaning of `PUSH BP` (R334). -/
def execPushBp (s : State) : Out := runEntry mcPushBp (encode .pushBp) s

/-- `PUSH SI`, opcode 0x59 (R334). -/
def mcPushSi : Entry := push16 "PUSH SI" .si
/-- The meaning of `PUSH SI` (R334). -/
def execPushSi (s : State) : Out := runEntry mcPushSi (encode .pushSi) s

/-- `PUSH DI`, opcode 0x5A (R334). -/
def mcPushDi : Entry := push16 "PUSH DI" .di
/-- The meaning of `PUSH DI` (R334). -/
def execPushDi (s : State) : Out := runEntry mcPushDi (encode .pushDi) s

/-- `POP BP`, opcode 0x5B (R335). -/
def mcPopBp : Entry := pop16 "POP BP" .bp
/-- The meaning of `POP BP` (R335). -/
def execPopBp (s : State) : Out := runEntry mcPopBp (encode .popBp) s

/-- `POP SI`, opcode 0x5C (R335). -/
def mcPopSi : Entry := pop16 "POP SI" .si
/-- The meaning of `POP SI` (R335). -/
def execPopSi (s : State) : Out := runEntry mcPopSi (encode .popSi) s

/-- `POP DI`, opcode 0x5D (R335). -/
def mcPopDi : Entry := pop16 "POP DI" .di
/-- The meaning of `POP DI` (R335). -/
def execPopDi (s : State) : Out := runEntry mcPopDi (encode .popDi) s

/-- `PUSHF`, opcode 0x5E (R336). -/
def mcPushf : Entry := pushFlags "PUSHF"
/-- The meaning of `PUSHF` (R336). -/
def execPushf (s : State) : Out := runEntry mcPushf (encode .pushf) s

/-- `POPF`, opcode 0x5F (R337). -/
def mcPopf : Entry := popFlags "POPF"
/-- The meaning of `POPF` (R337). -/
def execPopf (s : State) : Out := runEntry mcPopf (encode .popf) s

end Sys2Proof.Machine
end

