-- ==== Sys2Proof/Machine/DefaultTable.lean ====
section
/-! DEFINITION. The microcode table (30_encoding.md R100): the default map by opcode (R120), the entry of each instruction,
and the lookup in the table the machine is configured with. -/

namespace Sys2Proof.Machine

open Sys2Proof

/-- The entries of row 0_ of the default map (30_encoding.md R120). -/
def entryRow0 : List (Option Entry) :=
  [some mcNop, some mcMovAImm, some mcMovBImm, some mcMovCImm,
   some mcMovDImm, some mcMovAMem, some mcMovBMem, some mcMovCMem,
   some mcMovDMem, some mcMovMemA, some mcMovMemB, some mcMovMemC,
   some mcMovMemD, some mcMovAB, some mcMovAC, some mcMovAD]

/-- The entries of row 1_ of the default map (30_encoding.md R120). -/
def entryRow1 : List (Option Entry) :=
  [some mcMovBA, some mcMovBC, some mcMovBD, some mcMovCA,
   some mcMovCB, some mcMovCD, some mcMovDA, some mcMovDB,
   some mcMovDC, some mcMovSpImm, some mcMovBpImm, some mcMovSiImm,
   some mcMovDiImm, some mcMovSpMem, some mcMovBpMem, some mcMovSiMem]

/-- The entries of row 2_ of the default map (30_encoding.md R120). -/
def entryRow2 : List (Option Entry) :=
  [some mcMovDiMem, some mcMovMemSp, some mcMovMemBp, some mcMovMemSi,
   some mcMovMemDi, some mcMovSpBp, some mcMovSpSi, some mcMovSpDi,
   some mcMovBpSp, some mcMovBpSi, some mcMovBpDi, some mcMovSiSp,
   some mcMovSiBp, some mcMovSiDi, some mcMovDiSp, some mcMovDiBp]

/-- The entries of row 3_ of the default map (30_encoding.md R120). -/
def entryRow3 : List (Option Entry) :=
  [some mcMovDiSi, some mcMovABpIdx, some mcMovASiIdx, some mcMovADiIdx,
   some mcMovBBpIdx, some mcMovBSiIdx, some mcMovBDiIdx, some mcMovCBpIdx,
   some mcMovCSiIdx, some mcMovCDiIdx, some mcMovDBpIdx, some mcMovDSiIdx,
   some mcMovDDiIdx, some mcMovBpIdxA, some mcMovSiIdxA, some mcMovDiIdxA]

/-- The entries of row 4_ of the default map (30_encoding.md R120). -/
def entryRow4 : List (Option Entry) :=
  [some mcMovBpIdxB, some mcMovSiIdxB, some mcMovDiIdxB, some mcMovBpIdxC,
   some mcMovSiIdxC, some mcMovDiIdxC, some mcMovBpIdxD, some mcMovSiIdxD,
   some mcMovDiIdxD, some mcMovSiBpIdx, some mcMovDiBpIdx, some mcMovBpIdxSi,
   some mcMovBpIdxDi, none, none, none]

/-- The entries of row 5_ of the default map (30_encoding.md R120). -/
def entryRow5 : List (Option Entry) :=
  [some mcPushA, some mcPushB, some mcPushC, some mcPushD,
   some mcPopA, some mcPopB, some mcPopC, some mcPopD,
   some mcPushBp, some mcPushSi, some mcPushDi, some mcPopBp,
   some mcPopSi, some mcPopDi, some mcPushf, some mcPopf]

/-- The entries of row 6_ of the default map (30_encoding.md R120). -/
def entryRow6 : List (Option Entry) :=
  [some mcJmp, some mcJz, some mcJnz, some mcJc,
   some mcJnc, some mcJv, some mcJnv, some mcCall,
   some mcRet, none, none, none,
   none, none, none, none]

/-- The entries of row 7_ of the default map (30_encoding.md R120). -/
def entryRow7 : List (Option Entry) :=
  [some mcAddAB, some mcAddAC, some mcAddAD, some mcAddBC,
   some mcAddBD, some mcAddCD, some mcAdcAB, some mcAdcAC,
   some mcAdcAD, some mcAdcBC, some mcAdcBD, some mcAdcCD,
   some mcSubAB, some mcSubAC, some mcSubAD, some mcSubBC]

/-- The entries of row 8_ of the default map (30_encoding.md R120). -/
def entryRow8 : List (Option Entry) :=
  [some mcSubBD, some mcSubCD, some mcSbbAB, some mcSbbAC,
   some mcSbbAD, some mcSbbBC, some mcSbbBD, some mcSbbCD,
   some mcAndAB, some mcAndAC, some mcAndAD, some mcAndBC,
   some mcAndBD, some mcAndCD, some mcOrAB, some mcOrAC]

/-- The entries of row 9_ of the default map (30_encoding.md R120). -/
def entryRow9 : List (Option Entry) :=
  [some mcOrAD, some mcOrBC, some mcOrBD, some mcOrCD,
   some mcXorAB, some mcXorAC, some mcXorAD, some mcXorBC,
   some mcXorBD, some mcXorCD, some mcCmpAB, some mcCmpAC,
   some mcCmpAD, some mcCmpBC, some mcCmpBD, some mcCmpCD]

/-- The entries of row A_ of the default map (30_encoding.md R120). -/
def entryRowA : List (Option Entry) :=
  [some mcAddAImm, some mcAddBImm, some mcAddCImm, some mcAddDImm,
   some mcAdcAImm, some mcAdcBImm, some mcAdcCImm, some mcAdcDImm,
   some mcSubAImm, some mcSubBImm, some mcSubCImm, some mcSubDImm,
   some mcSbbAImm, some mcSbbBImm, some mcSbbCImm, some mcSbbDImm]

/-- The entries of row B_ of the default map (30_encoding.md R120). -/
def entryRowB : List (Option Entry) :=
  [some mcAndAImm, some mcAndBImm, some mcAndCImm, some mcAndDImm,
   some mcOrAImm, some mcOrBImm, some mcOrCImm, some mcOrDImm,
   some mcXorAImm, some mcXorBImm, some mcXorCImm, some mcXorDImm,
   some mcCmpAImm, some mcCmpBImm, some mcCmpCImm, some mcCmpDImm]

/-- The entries of row C_ of the default map (30_encoding.md R120). -/
def entryRowC : List (Option Entry) :=
  [some mcNotA, some mcNotB, some mcNotC, some mcNotD,
   some mcShlA, some mcShlB, some mcShlC, some mcShlD,
   some mcShrA, some mcShrB, some mcShrC, some mcShrD,
   some mcClrA, some mcClrB, some mcClrC, some mcClrD]

/-- The entries of row D_ of the default map (30_encoding.md R120). -/
def entryRowD : List (Option Entry) :=
  [some mcIncA, some mcIncB, some mcIncC, some mcIncD,
   some mcDecA, some mcDecB, some mcDecC, some mcDecD,
   none, none, none, none,
   none, none, none, none]

/-- The entries of row E_ of the default map (30_encoding.md R120). -/
def entryRowE : List (Option Entry) :=
  [some mcInA0, some mcInA1, some mcInB0, some mcInB1,
   some mcInC0, some mcInC1, some mcInD0, some mcInD1,
   some mcOut0A, some mcOut1A, some mcOut0B, some mcOut1B,
   some mcOut0C, some mcOut1C, some mcOut0D, some mcOut1D]

/-- The entries of row F_ of the default map (30_encoding.md R120). -/
def entryRowF : List (Option Entry) :=
  [none, none, none, none,
   none, none, none, none,
   none, none, none, none,
   none, none, none, some mcHlt]

/-- The row of a high nibble. -/
def entryRow : Nat → List (Option Entry)
  | 0 => entryRow0
  | 1 => entryRow1
  | 2 => entryRow2
  | 3 => entryRow3
  | 4 => entryRow4
  | 5 => entryRow5
  | 6 => entryRow6
  | 7 => entryRow7
  | 8 => entryRow8
  | 9 => entryRow9
  | 10 => entryRowA
  | 11 => entryRowB
  | 12 => entryRowC
  | 13 => entryRowD
  | 14 => entryRowE
  | 15 => entryRowF
  | _ => []

/-- The default table (30_encoding.md R120): none for an unassigned opcode (R94). -/
def defaultEntry (op : Byte) : Option Entry := ((entryRow (op.toNat / 16))[op.toNat % 16]?).getD none

/-- `MicrocodeTable` as a function of the opcode (30_encoding.md R100; log 6). -/
def tableEntry (t : MicrocodeTable) (op : Byte) : Option Entry :=
  match t with
  | .default => defaultEntry op
  | .host rows => (rows.find? fun row => row.1 == op).map (·.2)

/-- The entry of each instruction in the default table. -/
def microcode : Instr → Entry
  | .nop => mcNop
  | .movAImm _ => mcMovAImm
  | .movBImm _ => mcMovBImm
  | .movCImm _ => mcMovCImm
  | .movDImm _ => mcMovDImm
  | .movAMem _ => mcMovAMem
  | .movBMem _ => mcMovBMem
  | .movCMem _ => mcMovCMem
  | .movDMem _ => mcMovDMem
  | .movMemA _ => mcMovMemA
  | .movMemB _ => mcMovMemB
  | .movMemC _ => mcMovMemC
  | .movMemD _ => mcMovMemD
  | .movAB => mcMovAB
  | .movAC => mcMovAC
  | .movAD => mcMovAD
  | .movBA => mcMovBA
  | .movBC => mcMovBC
  | .movBD => mcMovBD
  | .movCA => mcMovCA
  | .movCB => mcMovCB
  | .movCD => mcMovCD
  | .movDA => mcMovDA
  | .movDB => mcMovDB
  | .movDC => mcMovDC
  | .movSpImm _ => mcMovSpImm
  | .movBpImm _ => mcMovBpImm
  | .movSiImm _ => mcMovSiImm
  | .movDiImm _ => mcMovDiImm
  | .movSpMem _ => mcMovSpMem
  | .movBpMem _ => mcMovBpMem
  | .movSiMem _ => mcMovSiMem
  | .movDiMem _ => mcMovDiMem
  | .movMemSp _ => mcMovMemSp
  | .movMemBp _ => mcMovMemBp
  | .movMemSi _ => mcMovMemSi
  | .movMemDi _ => mcMovMemDi
  | .movSpBp => mcMovSpBp
  | .movSpSi => mcMovSpSi
  | .movSpDi => mcMovSpDi
  | .movBpSp => mcMovBpSp
  | .movBpSi => mcMovBpSi
  | .movBpDi => mcMovBpDi
  | .movSiSp => mcMovSiSp
  | .movSiBp => mcMovSiBp
  | .movSiDi => mcMovSiDi
  | .movDiSp => mcMovDiSp
  | .movDiBp => mcMovDiBp
  | .movDiSi => mcMovDiSi
  | .movABpIdx _ => mcMovABpIdx
  | .movASiIdx _ => mcMovASiIdx
  | .movADiIdx _ => mcMovADiIdx
  | .movBBpIdx _ => mcMovBBpIdx
  | .movBSiIdx _ => mcMovBSiIdx
  | .movBDiIdx _ => mcMovBDiIdx
  | .movCBpIdx _ => mcMovCBpIdx
  | .movCSiIdx _ => mcMovCSiIdx
  | .movCDiIdx _ => mcMovCDiIdx
  | .movDBpIdx _ => mcMovDBpIdx
  | .movDSiIdx _ => mcMovDSiIdx
  | .movDDiIdx _ => mcMovDDiIdx
  | .movBpIdxA _ => mcMovBpIdxA
  | .movSiIdxA _ => mcMovSiIdxA
  | .movDiIdxA _ => mcMovDiIdxA
  | .movBpIdxB _ => mcMovBpIdxB
  | .movSiIdxB _ => mcMovSiIdxB
  | .movDiIdxB _ => mcMovDiIdxB
  | .movBpIdxC _ => mcMovBpIdxC
  | .movSiIdxC _ => mcMovSiIdxC
  | .movDiIdxC _ => mcMovDiIdxC
  | .movBpIdxD _ => mcMovBpIdxD
  | .movSiIdxD _ => mcMovSiIdxD
  | .movDiIdxD _ => mcMovDiIdxD
  | .movSiBpIdx _ => mcMovSiBpIdx
  | .movDiBpIdx _ => mcMovDiBpIdx
  | .movBpIdxSi _ => mcMovBpIdxSi
  | .movBpIdxDi _ => mcMovBpIdxDi
  | .pushA => mcPushA
  | .pushB => mcPushB
  | .pushC => mcPushC
  | .pushD => mcPushD
  | .popA => mcPopA
  | .popB => mcPopB
  | .popC => mcPopC
  | .popD => mcPopD
  | .pushBp => mcPushBp
  | .pushSi => mcPushSi
  | .pushDi => mcPushDi
  | .popBp => mcPopBp
  | .popSi => mcPopSi
  | .popDi => mcPopDi
  | .pushf => mcPushf
  | .popf => mcPopf
  | .jmp _ => mcJmp
  | .jz _ => mcJz
  | .jnz _ => mcJnz
  | .jc _ => mcJc
  | .jnc _ => mcJnc
  | .jv _ => mcJv
  | .jnv _ => mcJnv
  | .call _ => mcCall
  | .ret => mcRet
  | .addAB => mcAddAB
  | .addAC => mcAddAC
  | .addAD => mcAddAD
  | .addBC => mcAddBC
  | .addBD => mcAddBD
  | .addCD => mcAddCD
  | .adcAB => mcAdcAB
  | .adcAC => mcAdcAC
  | .adcAD => mcAdcAD
  | .adcBC => mcAdcBC
  | .adcBD => mcAdcBD
  | .adcCD => mcAdcCD
  | .subAB => mcSubAB
  | .subAC => mcSubAC
  | .subAD => mcSubAD
  | .subBC => mcSubBC
  | .subBD => mcSubBD
  | .subCD => mcSubCD
  | .sbbAB => mcSbbAB
  | .sbbAC => mcSbbAC
  | .sbbAD => mcSbbAD
  | .sbbBC => mcSbbBC
  | .sbbBD => mcSbbBD
  | .sbbCD => mcSbbCD
  | .andAB => mcAndAB
  | .andAC => mcAndAC
  | .andAD => mcAndAD
  | .andBC => mcAndBC
  | .andBD => mcAndBD
  | .andCD => mcAndCD
  | .orAB => mcOrAB
  | .orAC => mcOrAC
  | .orAD => mcOrAD
  | .orBC => mcOrBC
  | .orBD => mcOrBD
  | .orCD => mcOrCD
  | .xorAB => mcXorAB
  | .xorAC => mcXorAC
  | .xorAD => mcXorAD
  | .xorBC => mcXorBC
  | .xorBD => mcXorBD
  | .xorCD => mcXorCD
  | .cmpAB => mcCmpAB
  | .cmpAC => mcCmpAC
  | .cmpAD => mcCmpAD
  | .cmpBC => mcCmpBC
  | .cmpBD => mcCmpBD
  | .cmpCD => mcCmpCD
  | .addAImm _ => mcAddAImm
  | .addBImm _ => mcAddBImm
  | .addCImm _ => mcAddCImm
  | .addDImm _ => mcAddDImm
  | .adcAImm _ => mcAdcAImm
  | .adcBImm _ => mcAdcBImm
  | .adcCImm _ => mcAdcCImm
  | .adcDImm _ => mcAdcDImm
  | .subAImm _ => mcSubAImm
  | .subBImm _ => mcSubBImm
  | .subCImm _ => mcSubCImm
  | .subDImm _ => mcSubDImm
  | .sbbAImm _ => mcSbbAImm
  | .sbbBImm _ => mcSbbBImm
  | .sbbCImm _ => mcSbbCImm
  | .sbbDImm _ => mcSbbDImm
  | .andAImm _ => mcAndAImm
  | .andBImm _ => mcAndBImm
  | .andCImm _ => mcAndCImm
  | .andDImm _ => mcAndDImm
  | .orAImm _ => mcOrAImm
  | .orBImm _ => mcOrBImm
  | .orCImm _ => mcOrCImm
  | .orDImm _ => mcOrDImm
  | .xorAImm _ => mcXorAImm
  | .xorBImm _ => mcXorBImm
  | .xorCImm _ => mcXorCImm
  | .xorDImm _ => mcXorDImm
  | .cmpAImm _ => mcCmpAImm
  | .cmpBImm _ => mcCmpBImm
  | .cmpCImm _ => mcCmpCImm
  | .cmpDImm _ => mcCmpDImm
  | .notA => mcNotA
  | .notB => mcNotB
  | .notC => mcNotC
  | .notD => mcNotD
  | .shlA => mcShlA
  | .shlB => mcShlB
  | .shlC => mcShlC
  | .shlD => mcShlD
  | .shrA => mcShrA
  | .shrB => mcShrB
  | .shrC => mcShrC
  | .shrD => mcShrD
  | .clrA => mcClrA
  | .clrB => mcClrB
  | .clrC => mcClrC
  | .clrD => mcClrD
  | .incA => mcIncA
  | .incB => mcIncB
  | .incC => mcIncC
  | .incD => mcIncD
  | .decA => mcDecA
  | .decB => mcDecB
  | .decC => mcDecC
  | .decD => mcDecD
  | .inA0 => mcInA0
  | .inA1 => mcInA1
  | .inB0 => mcInB0
  | .inB1 => mcInB1
  | .inC0 => mcInC0
  | .inC1 => mcInC1
  | .inD0 => mcInD0
  | .inD1 => mcInD1
  | .out0A => mcOut0A
  | .out1A => mcOut1A
  | .out0B => mcOut0B
  | .out1B => mcOut1B
  | .out0C => mcOut0C
  | .out1C => mcOut1C
  | .out0D => mcOut0D
  | .out1D => mcOut1D
  | .hlt => mcHlt

end Sys2Proof.Machine
end

