-- ==== Sys2Proof/Machine/Dispatch.lean ====
section
/-! DEFINITION. The dispatch of every instruction to its meaning, one arm per constructor, in the order of the opcode table. -/

namespace Sys2Proof.Machine

open Sys2Proof

def exec (i : Instr) (s : State) : Host.Outcome State Fault Refusal :=
  match i with
  | .nop => Sys2Proof.Machine.execNop s
  | .movAImm i8 => Sys2Proof.Machine.execMovAImm i8 s
  | .movBImm i8 => Sys2Proof.Machine.execMovBImm i8 s
  | .movCImm i8 => Sys2Proof.Machine.execMovCImm i8 s
  | .movDImm i8 => Sys2Proof.Machine.execMovDImm i8 s
  | .movAMem a16 => Sys2Proof.Machine.execMovAMem a16 s
  | .movBMem a16 => Sys2Proof.Machine.execMovBMem a16 s
  | .movCMem a16 => Sys2Proof.Machine.execMovCMem a16 s
  | .movDMem a16 => Sys2Proof.Machine.execMovDMem a16 s
  | .movMemA a16 => Sys2Proof.Machine.execMovMemA a16 s
  | .movMemB a16 => Sys2Proof.Machine.execMovMemB a16 s
  | .movMemC a16 => Sys2Proof.Machine.execMovMemC a16 s
  | .movMemD a16 => Sys2Proof.Machine.execMovMemD a16 s
  | .movAB => Sys2Proof.Machine.execMovAB s
  | .movAC => Sys2Proof.Machine.execMovAC s
  | .movAD => Sys2Proof.Machine.execMovAD s
  | .movBA => Sys2Proof.Machine.execMovBA s
  | .movBC => Sys2Proof.Machine.execMovBC s
  | .movBD => Sys2Proof.Machine.execMovBD s
  | .movCA => Sys2Proof.Machine.execMovCA s
  | .movCB => Sys2Proof.Machine.execMovCB s
  | .movCD => Sys2Proof.Machine.execMovCD s
  | .movDA => Sys2Proof.Machine.execMovDA s
  | .movDB => Sys2Proof.Machine.execMovDB s
  | .movDC => Sys2Proof.Machine.execMovDC s
  | .movSpImm i16 => Sys2Proof.Machine.execMovSpImm i16 s
  | .movBpImm i16 => Sys2Proof.Machine.execMovBpImm i16 s
  | .movSiImm i16 => Sys2Proof.Machine.execMovSiImm i16 s
  | .movDiImm i16 => Sys2Proof.Machine.execMovDiImm i16 s
  | .movSpMem a16 => Sys2Proof.Machine.execMovSpMem a16 s
  | .movBpMem a16 => Sys2Proof.Machine.execMovBpMem a16 s
  | .movSiMem a16 => Sys2Proof.Machine.execMovSiMem a16 s
  | .movDiMem a16 => Sys2Proof.Machine.execMovDiMem a16 s
  | .movMemSp a16 => Sys2Proof.Machine.execMovMemSp a16 s
  | .movMemBp a16 => Sys2Proof.Machine.execMovMemBp a16 s
  | .movMemSi a16 => Sys2Proof.Machine.execMovMemSi a16 s
  | .movMemDi a16 => Sys2Proof.Machine.execMovMemDi a16 s
  | .movSpBp => Sys2Proof.Machine.execMovSpBp s
  | .movSpSi => Sys2Proof.Machine.execMovSpSi s
  | .movSpDi => Sys2Proof.Machine.execMovSpDi s
  | .movBpSp => Sys2Proof.Machine.execMovBpSp s
  | .movBpSi => Sys2Proof.Machine.execMovBpSi s
  | .movBpDi => Sys2Proof.Machine.execMovBpDi s
  | .movSiSp => Sys2Proof.Machine.execMovSiSp s
  | .movSiBp => Sys2Proof.Machine.execMovSiBp s
  | .movSiDi => Sys2Proof.Machine.execMovSiDi s
  | .movDiSp => Sys2Proof.Machine.execMovDiSp s
  | .movDiBp => Sys2Proof.Machine.execMovDiBp s
  | .movDiSi => Sys2Proof.Machine.execMovDiSi s
  | .movABpIdx d8 => Sys2Proof.Machine.execMovABpIdx d8 s
  | .movASiIdx d8 => Sys2Proof.Machine.execMovASiIdx d8 s
  | .movADiIdx d8 => Sys2Proof.Machine.execMovADiIdx d8 s
  | .movBBpIdx d8 => Sys2Proof.Machine.execMovBBpIdx d8 s
  | .movBSiIdx d8 => Sys2Proof.Machine.execMovBSiIdx d8 s
  | .movBDiIdx d8 => Sys2Proof.Machine.execMovBDiIdx d8 s
  | .movCBpIdx d8 => Sys2Proof.Machine.execMovCBpIdx d8 s
  | .movCSiIdx d8 => Sys2Proof.Machine.execMovCSiIdx d8 s
  | .movCDiIdx d8 => Sys2Proof.Machine.execMovCDiIdx d8 s
  | .movDBpIdx d8 => Sys2Proof.Machine.execMovDBpIdx d8 s
  | .movDSiIdx d8 => Sys2Proof.Machine.execMovDSiIdx d8 s
  | .movDDiIdx d8 => Sys2Proof.Machine.execMovDDiIdx d8 s
  | .movBpIdxA d8 => Sys2Proof.Machine.execMovBpIdxA d8 s
  | .movSiIdxA d8 => Sys2Proof.Machine.execMovSiIdxA d8 s
  | .movDiIdxA d8 => Sys2Proof.Machine.execMovDiIdxA d8 s
  | .movBpIdxB d8 => Sys2Proof.Machine.execMovBpIdxB d8 s
  | .movSiIdxB d8 => Sys2Proof.Machine.execMovSiIdxB d8 s
  | .movDiIdxB d8 => Sys2Proof.Machine.execMovDiIdxB d8 s
  | .movBpIdxC d8 => Sys2Proof.Machine.execMovBpIdxC d8 s
  | .movSiIdxC d8 => Sys2Proof.Machine.execMovSiIdxC d8 s
  | .movDiIdxC d8 => Sys2Proof.Machine.execMovDiIdxC d8 s
  | .movBpIdxD d8 => Sys2Proof.Machine.execMovBpIdxD d8 s
  | .movSiIdxD d8 => Sys2Proof.Machine.execMovSiIdxD d8 s
  | .movDiIdxD d8 => Sys2Proof.Machine.execMovDiIdxD d8 s
  | .movSiBpIdx d8 => Sys2Proof.Machine.execMovSiBpIdx d8 s
  | .movDiBpIdx d8 => Sys2Proof.Machine.execMovDiBpIdx d8 s
  | .movBpIdxSi d8 => Sys2Proof.Machine.execMovBpIdxSi d8 s
  | .movBpIdxDi d8 => Sys2Proof.Machine.execMovBpIdxDi d8 s
  | .pushA => Sys2Proof.Machine.execPushA s
  | .pushB => Sys2Proof.Machine.execPushB s
  | .pushC => Sys2Proof.Machine.execPushC s
  | .pushD => Sys2Proof.Machine.execPushD s
  | .popA => Sys2Proof.Machine.execPopA s
  | .popB => Sys2Proof.Machine.execPopB s
  | .popC => Sys2Proof.Machine.execPopC s
  | .popD => Sys2Proof.Machine.execPopD s
  | .pushBp => Sys2Proof.Machine.execPushBp s
  | .pushSi => Sys2Proof.Machine.execPushSi s
  | .pushDi => Sys2Proof.Machine.execPushDi s
  | .popBp => Sys2Proof.Machine.execPopBp s
  | .popSi => Sys2Proof.Machine.execPopSi s
  | .popDi => Sys2Proof.Machine.execPopDi s
  | .pushf => Sys2Proof.Machine.execPushf s
  | .popf => Sys2Proof.Machine.execPopf s
  | .jmp i16 => Sys2Proof.Machine.execJmp i16 s
  | .jz i16 => Sys2Proof.Machine.execJz i16 s
  | .jnz i16 => Sys2Proof.Machine.execJnz i16 s
  | .jc i16 => Sys2Proof.Machine.execJc i16 s
  | .jnc i16 => Sys2Proof.Machine.execJnc i16 s
  | .jv i16 => Sys2Proof.Machine.execJv i16 s
  | .jnv i16 => Sys2Proof.Machine.execJnv i16 s
  | .call i16 => Sys2Proof.Machine.execCall i16 s
  | .ret => Sys2Proof.Machine.execRet s
  | .addAB => Sys2Proof.Machine.execAddAB s
  | .addAC => Sys2Proof.Machine.execAddAC s
  | .addAD => Sys2Proof.Machine.execAddAD s
  | .addBC => Sys2Proof.Machine.execAddBC s
  | .addBD => Sys2Proof.Machine.execAddBD s
  | .addCD => Sys2Proof.Machine.execAddCD s
  | .adcAB => Sys2Proof.Machine.execAdcAB s
  | .adcAC => Sys2Proof.Machine.execAdcAC s
  | .adcAD => Sys2Proof.Machine.execAdcAD s
  | .adcBC => Sys2Proof.Machine.execAdcBC s
  | .adcBD => Sys2Proof.Machine.execAdcBD s
  | .adcCD => Sys2Proof.Machine.execAdcCD s
  | .subAB => Sys2Proof.Machine.execSubAB s
  | .subAC => Sys2Proof.Machine.execSubAC s
  | .subAD => Sys2Proof.Machine.execSubAD s
  | .subBC => Sys2Proof.Machine.execSubBC s
  | .subBD => Sys2Proof.Machine.execSubBD s
  | .subCD => Sys2Proof.Machine.execSubCD s
  | .sbbAB => Sys2Proof.Machine.execSbbAB s
  | .sbbAC => Sys2Proof.Machine.execSbbAC s
  | .sbbAD => Sys2Proof.Machine.execSbbAD s
  | .sbbBC => Sys2Proof.Machine.execSbbBC s
  | .sbbBD => Sys2Proof.Machine.execSbbBD s
  | .sbbCD => Sys2Proof.Machine.execSbbCD s
  | .andAB => Sys2Proof.Machine.execAndAB s
  | .andAC => Sys2Proof.Machine.execAndAC s
  | .andAD => Sys2Proof.Machine.execAndAD s
  | .andBC => Sys2Proof.Machine.execAndBC s
  | .andBD => Sys2Proof.Machine.execAndBD s
  | .andCD => Sys2Proof.Machine.execAndCD s
  | .orAB => Sys2Proof.Machine.execOrAB s
  | .orAC => Sys2Proof.Machine.execOrAC s
  | .orAD => Sys2Proof.Machine.execOrAD s
  | .orBC => Sys2Proof.Machine.execOrBC s
  | .orBD => Sys2Proof.Machine.execOrBD s
  | .orCD => Sys2Proof.Machine.execOrCD s
  | .xorAB => Sys2Proof.Machine.execXorAB s
  | .xorAC => Sys2Proof.Machine.execXorAC s
  | .xorAD => Sys2Proof.Machine.execXorAD s
  | .xorBC => Sys2Proof.Machine.execXorBC s
  | .xorBD => Sys2Proof.Machine.execXorBD s
  | .xorCD => Sys2Proof.Machine.execXorCD s
  | .cmpAB => Sys2Proof.Machine.execCmpAB s
  | .cmpAC => Sys2Proof.Machine.execCmpAC s
  | .cmpAD => Sys2Proof.Machine.execCmpAD s
  | .cmpBC => Sys2Proof.Machine.execCmpBC s
  | .cmpBD => Sys2Proof.Machine.execCmpBD s
  | .cmpCD => Sys2Proof.Machine.execCmpCD s
  | .addAImm i8 => Sys2Proof.Machine.execAddAImm i8 s
  | .addBImm i8 => Sys2Proof.Machine.execAddBImm i8 s
  | .addCImm i8 => Sys2Proof.Machine.execAddCImm i8 s
  | .addDImm i8 => Sys2Proof.Machine.execAddDImm i8 s
  | .adcAImm i8 => Sys2Proof.Machine.execAdcAImm i8 s
  | .adcBImm i8 => Sys2Proof.Machine.execAdcBImm i8 s
  | .adcCImm i8 => Sys2Proof.Machine.execAdcCImm i8 s
  | .adcDImm i8 => Sys2Proof.Machine.execAdcDImm i8 s
  | .subAImm i8 => Sys2Proof.Machine.execSubAImm i8 s
  | .subBImm i8 => Sys2Proof.Machine.execSubBImm i8 s
  | .subCImm i8 => Sys2Proof.Machine.execSubCImm i8 s
  | .subDImm i8 => Sys2Proof.Machine.execSubDImm i8 s
  | .sbbAImm i8 => Sys2Proof.Machine.execSbbAImm i8 s
  | .sbbBImm i8 => Sys2Proof.Machine.execSbbBImm i8 s
  | .sbbCImm i8 => Sys2Proof.Machine.execSbbCImm i8 s
  | .sbbDImm i8 => Sys2Proof.Machine.execSbbDImm i8 s
  | .andAImm i8 => Sys2Proof.Machine.execAndAImm i8 s
  | .andBImm i8 => Sys2Proof.Machine.execAndBImm i8 s
  | .andCImm i8 => Sys2Proof.Machine.execAndCImm i8 s
  | .andDImm i8 => Sys2Proof.Machine.execAndDImm i8 s
  | .orAImm i8 => Sys2Proof.Machine.execOrAImm i8 s
  | .orBImm i8 => Sys2Proof.Machine.execOrBImm i8 s
  | .orCImm i8 => Sys2Proof.Machine.execOrCImm i8 s
  | .orDImm i8 => Sys2Proof.Machine.execOrDImm i8 s
  | .xorAImm i8 => Sys2Proof.Machine.execXorAImm i8 s
  | .xorBImm i8 => Sys2Proof.Machine.execXorBImm i8 s
  | .xorCImm i8 => Sys2Proof.Machine.execXorCImm i8 s
  | .xorDImm i8 => Sys2Proof.Machine.execXorDImm i8 s
  | .cmpAImm i8 => Sys2Proof.Machine.execCmpAImm i8 s
  | .cmpBImm i8 => Sys2Proof.Machine.execCmpBImm i8 s
  | .cmpCImm i8 => Sys2Proof.Machine.execCmpCImm i8 s
  | .cmpDImm i8 => Sys2Proof.Machine.execCmpDImm i8 s
  | .notA => Sys2Proof.Machine.execNotA s
  | .notB => Sys2Proof.Machine.execNotB s
  | .notC => Sys2Proof.Machine.execNotC s
  | .notD => Sys2Proof.Machine.execNotD s
  | .shlA => Sys2Proof.Machine.execShlA s
  | .shlB => Sys2Proof.Machine.execShlB s
  | .shlC => Sys2Proof.Machine.execShlC s
  | .shlD => Sys2Proof.Machine.execShlD s
  | .shrA => Sys2Proof.Machine.execShrA s
  | .shrB => Sys2Proof.Machine.execShrB s
  | .shrC => Sys2Proof.Machine.execShrC s
  | .shrD => Sys2Proof.Machine.execShrD s
  | .clrA => Sys2Proof.Machine.execClrA s
  | .clrB => Sys2Proof.Machine.execClrB s
  | .clrC => Sys2Proof.Machine.execClrC s
  | .clrD => Sys2Proof.Machine.execClrD s
  | .incA => Sys2Proof.Machine.execIncA s
  | .incB => Sys2Proof.Machine.execIncB s
  | .incC => Sys2Proof.Machine.execIncC s
  | .incD => Sys2Proof.Machine.execIncD s
  | .decA => Sys2Proof.Machine.execDecA s
  | .decB => Sys2Proof.Machine.execDecB s
  | .decC => Sys2Proof.Machine.execDecC s
  | .decD => Sys2Proof.Machine.execDecD s
  | .inA0 => Sys2Proof.Machine.execInA0 s
  | .inA1 => Sys2Proof.Machine.execInA1 s
  | .inB0 => Sys2Proof.Machine.execInB0 s
  | .inB1 => Sys2Proof.Machine.execInB1 s
  | .inC0 => Sys2Proof.Machine.execInC0 s
  | .inC1 => Sys2Proof.Machine.execInC1 s
  | .inD0 => Sys2Proof.Machine.execInD0 s
  | .inD1 => Sys2Proof.Machine.execInD1 s
  | .out0A => Sys2Proof.Machine.execOut0A s
  | .out1A => Sys2Proof.Machine.execOut1A s
  | .out0B => Sys2Proof.Machine.execOut0B s
  | .out1B => Sys2Proof.Machine.execOut1B s
  | .out0C => Sys2Proof.Machine.execOut0C s
  | .out1C => Sys2Proof.Machine.execOut1C s
  | .out0D => Sys2Proof.Machine.execOut0D s
  | .out1D => Sys2Proof.Machine.execOut1D s
  | .hlt => Sys2Proof.Machine.execHlt s

end Sys2Proof.Machine
end

