-- ==== Sys2Proof/Machine/Controller.lean ====
section
/-! DEFINITION. The controller (42_controller.md): reading the instruction at PC, decode errors (R241), finishing an
instruction from any place in it, one cycle at a time (10_state.md R43, 00_scope.md R13), and storing an instruction where
the next fetch reads it. -/

namespace Sys2Proof.Machine

open Sys2Proof

/-- Up to `n` bytes of the instruction stream from an address on, ending before the first unmapped one; addresses wrap at
0xFFFF (10_state.md R27). -/
def readStream (m : Memory) : Nat → Word → List Byte
  | 0, _ => []
  | n + 1, a =>
    match m.readByte a.toNat with
    | some b => b :: readStream m n (a + 1)
    | none => []

/-- The bytes at PC that an instruction can have, at most three (30_encoding.md R91). -/
def fetchBytes (s : State) : List Byte := readStream s.mem 3 s.regs.pc

/-- The instruction at PC, when the controller is between instructions, the default table is in force and all of the
instruction's bytes are mapped. -/
def instructionAt (s : State) : Option Instr :=
  match s.control, s.table with
  | .fetchOpcode1, .default =>
    match decode (fetchBytes s) with
    | .ok (i, _) => some i
    | .error _ => none
  | _, _ => none

/-- The decode after f2 (42_controller.md R241): InvalidInstruction if the opcode in IR has no entry, else InvalidMicroCode if
its entry is not well formed, else go on with the entry. -/
def decodeOpcode (k : Entry → State → Out) (s : State) : Out :=
  match tableEntry s.table s.regs.ir with
  | none => raise .invalidInstruction s
  | some e => if e.wellFormed then k e s else raise .invalidMicroCode s

/-- The cycles of an entry from a place in its cycle list on, all bytes read from memory. The opcode fetch is places 0 and
1. -/
def cyclesFrom (e : Entry) (index : Nat) : List (Step × Option Byte) := (bodyCycles e []).drop (index - 2)

/-- `executeInstruction` (42_controller.md R225 to R248), from wherever the controller stands: every byte is read from memory
in its own cycle, and the entry is the one the machine's table gives. From between two cycles it finishes the instruction
(DESIGN CHOICE, log 14, safe). -/
def finishInstruction (s : State) : Out :=
  match s.control with
  | .fetchOpcode1 => takeError (andThen (fetchOpcode none s) (decodeOpcode fun e => runBody e []))
  | .fetchOpcode2 => takeError (andThen (cycle fetchStep2 false none s) (decodeOpcode fun e => runBody e []))
  | .running e index => takeError (runCycles e (cyclesFrom e index) index s)

/-- A halted controller starts no instruction (42_controller.md R245). -/
def halted (s : State) : Bool := s.lines.halt && s.control == .fetchOpcode1

/-- What one instruction step does (log 1, log 3): a halted machine stays as it is; the instruction at PC runs; where there is
none (an unassigned opcode, an unmapped byte, a host table, a state between two cycles) the controller runs the cycles one by
one, which ends as R241, R242 or the host's table say. -/
def stepInstruction (s : State) : Out :=
  if halted s then .next s
  else
    match instructionAt s with
    | some i => exec i s
    | none => finishInstruction s

/-- After a cycle of the body: retire if it was the last, else stand before the next. -/
def advance (e : Entry) (last : Bool) (index : Nat) (s : State) : State :=
  if last then retire e s else { s with control := .running e (index + 1) }

/-- The controller's cycle step: one bus transaction (00_scope.md R13, 42_controller.md R225 to R242). -/
def clock (s : State) : Out :=
  if halted s then .next s
  else
    match s.control with
    | .fetchOpcode1 =>
      takeError (andThen (cycle fetchStep1 false none s) fun t => .next { t with control := .fetchOpcode2 })
    | .fetchOpcode2 =>
      takeError (andThen (cycle fetchStep2 false none s)
        (decodeOpcode fun e t => .next (advance e (cyclesFrom e 2).isEmpty 1 t)))
    | .running e index =>
      match cyclesFrom e index with
      | [] => .next (retire e s)
      | (st, fetched) :: rest =>
        takeError (andThen (cycle st (suppressed e rest.isEmpty s.flags) fetched s) fun t =>
          .next (advance e rest.isEmpty index t))

/-- `n` cycles, ended by the first error or refusal. -/
def clocks : Nat → State → Out
  | 0, s => .next s
  | n + 1, s => andThen (clock s) (clocks n)

/-- Load one byte by the host's `add` of a one-byte block (20_memory.md R63, R66): it overwrites the byte of the bank that
covers it, and makes a one-byte writable bank where none does. -/
def loadByteAt (m : Memory) (a : Word) (v : Byte) : Memory := (m.add a.toNat 1 true (some [v])).getD m

/-- Load consecutive bytes, addresses wrapping at 0xFFFF. -/
def loadStream (m : Memory) (a : Word) : List Byte → Memory
  | [] => m
  | v :: rest => loadStream (loadByteAt m a v) (a + 1) rest

/-- The host's first boot step (70_reset_and_hazards.md R443): a machine that has no bank gets one over the whole space, which
covers the program, its stores and its stack (log 7); banks the host has already added stay. -/
def provideMemory (m : Memory) : Memory :=
  match m.banks with
  | [] => Memory.wholeSpace
  | _ :: _ => m

/-- The state with an instruction's bytes loaded at PC and the controller ready to fetch them: memory provided, not halted,
between instructions, the default table in force (log 7). -/
def placeAtFetch (s : State) (bytes : List Byte) : State :=
  { s with mem := loadStream (provideMemory s.mem) s.regs.pc bytes
           lines := { s.lines with halt := false }
           control := .fetchOpcode1
           table := .default }

end Sys2Proof.Machine
end

