-- ==== Sys2Proof/Machine/Step.lean ====
section
/-! DEFINITION. One step of the machine, an instruction (00_scope.md R13), and placing an instruction where the next step
fetches it. -/

namespace Sys2Proof.Machine

open Sys2Proof

/-- One instruction. -/
def step (s : State) : Host.Outcome State Fault Refusal := stepInstruction s

/-- `s` with the instruction whose bits are `w` stored where `step` fetches its next instruction (log 7). -/
def State.withFetchWord (s : State) (nbits w : Nat) : State := placeAtFetch s (tableBytes nbits w)

end Sys2Proof.Machine
end

