-- ==== Sys2Proof/Machine/Families.lean ====
section
/-! DEFINITION. The instruction families of the default map as functions of their register fields (30_encoding.md R121): the
constructors of `Instr` by register, pair, operation, branch and channel, so that a claim about a family names every member
once. -/

namespace Sys2Proof

/-- The general registers A to D, `r` of R121. -/
inductive GReg where
  | a | b | c | d
deriving DecidableEq, Repr

/-- The word registers SP, BP, SI, DI, `w` of R121. -/
inductive WReg where
  | sp | bp | si | di
deriving DecidableEq, Repr

/-- The base registers BP, SI, DI, `b` of R121. -/
inductive BaseReg where
  | bp | si | di
deriving DecidableEq, Repr

/-- The word registers of the indexed word moves, SI and DI (43_data_movement.md R280, R281). -/
inductive IndexReg where
  | si | di
deriving DecidableEq, Repr

/-- The register pairs of the binary operations, destination first (44_alu_instructions.md R300). -/
inductive RegPair where
  | ab | ac | ad | bc | bd | cd
deriving DecidableEq, Repr

/-- The binary operations, `k` of R121. -/
inductive BinaryOp where
  | add | adc | sub | sbb | and | or | xor | cmp
deriving DecidableEq, Repr

/-- The unary operations, `u` of R121. -/
inductive UnaryOp where
  | not | shl | shr | clr | inc | dec
deriving DecidableEq, Repr

/-- The conditional jumps (46_control_flow.md R352 to R357). -/
inductive Branch where
  | jz | jnz | jc | jnc | jv | jnv
deriving DecidableEq, Repr

/-- The two channels IN and OUT name (47_io_system.md R371, R372). -/
inductive Port where
  | p0 | p1
deriving DecidableEq, Repr

/-- The number of a general register (R121). -/
def GReg.num : GReg → Nat
  | .a => 0 | .b => 1 | .c => 2 | .d => 3

/-- The number of a word register (R121). -/
def WReg.num : WReg → Nat
  | .sp => 0 | .bp => 1 | .si => 2 | .di => 3

/-- The number of a base register (R121). -/
def BaseReg.num : BaseReg → Nat
  | .bp => 0 | .si => 1 | .di => 2

/-- The number of an indexed word register: 0 for SI, 1 for DI. -/
def IndexReg.num : IndexReg → Nat
  | .si => 0 | .di => 1

/-- The pair index (R121). -/
def RegPair.num : RegPair → Nat
  | .ab => 0 | .ac => 1 | .ad => 2 | .bc => 3 | .bd => 4 | .cd => 5

/-- The operation number `k` (R121). -/
def BinaryOp.num : BinaryOp → Nat
  | .add => 0 | .adc => 1 | .sub => 2 | .sbb => 3 | .and => 4 | .or => 5 | .xor => 6 | .cmp => 7

/-- The operation number `u` (R121). -/
def UnaryOp.num : UnaryOp → Nat
  | .not => 0 | .shl => 1 | .shr => 2 | .clr => 3 | .inc => 4 | .dec => 5

/-- The place of a conditional jump after 0x61 (R121). -/
def Branch.num : Branch → Nat
  | .jz => 0 | .jnz => 1 | .jc => 2 | .jnc => 3 | .jv => 4 | .jnv => 5

/-- The channel number of a port. -/
def Port.num : Port → Nat
  | .p0 => 0 | .p1 => 1

/-- The byte register a general register is. -/
def GReg.reg : GReg → ByteReg
  | .a => .a | .b => .b | .c => .c | .d => .d

/-- The address register a word register is. -/
def WReg.reg : WReg → AddrReg
  | .sp => .sp | .bp => .bp | .si => .si | .di => .di

/-- The address register a base register is. -/
def BaseReg.reg : BaseReg → AddrReg
  | .bp => .bp | .si => .si | .di => .di

/-- The address register an indexed word register is. -/
def IndexReg.reg : IndexReg → AddrReg
  | .si => .si | .di => .di

/-- The destination and left operand of a pair. -/
def RegPair.left : RegPair → ByteReg
  | .ab | .ac | .ad => .a
  | .bc | .bd => .b
  | .cd => .c

/-- The right operand of a pair. -/
def RegPair.right : RegPair → ByteReg
  | .ab => .b
  | .ac | .bc => .c
  | .ad | .bd | .cd => .d

/-- The ALU operation of a binary instruction. -/
def BinaryOp.alu : BinaryOp → AluOp
  | .add => .add | .adc => .adc | .sub => .sub | .sbb => .sbb
  | .and => .and | .or => .or | .xor => .xor | .cmp => .cmp

/-- The ALU operation of a unary instruction. -/
def UnaryOp.alu : UnaryOp → AluOp
  | .not => .not | .shl => .shl | .shr => .shr | .clr => .clr | .inc => .inc | .dec => .dec

/-- The flag a conditional jump tests (46_control_flow.md R352 to R357). -/
def Branch.flag (b : Branch) (f : Machine.Flags) : Bool :=
  match b with
  | .jz | .jnz => f.z
  | .jc | .jnc => f.c
  | .jv | .jnv => f.v

/-- The flag value on which a conditional jump is taken. -/
def Branch.takenOn : Branch → Bool
  | .jz | .jc | .jv => true
  | .jnz | .jnc | .jnv => false

/-- The channel of a port. -/
def Port.channel : Port → Fin 16
  | .p0 => 0 | .p1 => 1

/-- `MOV r,#i8` (43_data_movement.md R270). -/
def Instr.movImm8 (x0 : GReg) (i8 : Byte) : Instr :=
  match x0 with
  | .a => .movAImm i8
  | .b => .movBImm i8
  | .c => .movCImm i8
  | .d => .movDImm i8

/-- `MOV r,[a16]` (R271). -/
def Instr.movLoad8 (x0 : GReg) (a16 : Word) : Instr :=
  match x0 with
  | .a => .movAMem a16
  | .b => .movBMem a16
  | .c => .movCMem a16
  | .d => .movDMem a16

/-- `MOV [a16],r` (R272). -/
def Instr.movStore8 (x0 : GReg) (a16 : Word) : Instr :=
  match x0 with
  | .a => .movMemA a16
  | .b => .movMemB a16
  | .c => .movMemC a16
  | .d => .movMemD a16

/-- `MOV rd,rs` (R273); none where the registers are the same, a form that does not exist. -/
def Instr.movCopy8 (x0 : GReg) (x1 : GReg) : Option Instr :=
  match x0, x1 with
  | .a, .a => none
  | .a, .b => some .movAB
  | .a, .c => some .movAC
  | .a, .d => some .movAD
  | .b, .a => some .movBA
  | .b, .b => none
  | .b, .c => some .movBC
  | .b, .d => some .movBD
  | .c, .a => some .movCA
  | .c, .b => some .movCB
  | .c, .c => none
  | .c, .d => some .movCD
  | .d, .a => some .movDA
  | .d, .b => some .movDB
  | .d, .c => some .movDC
  | .d, .d => none

/-- `MOV w,#i16` (R274). -/
def Instr.movImm16 (x0 : WReg) (i16 : Word) : Instr :=
  match x0 with
  | .sp => .movSpImm i16
  | .bp => .movBpImm i16
  | .si => .movSiImm i16
  | .di => .movDiImm i16

/-- `MOV w,[a16]` (R275). -/
def Instr.movLoad16 (x0 : WReg) (a16 : Word) : Instr :=
  match x0 with
  | .sp => .movSpMem a16
  | .bp => .movBpMem a16
  | .si => .movSiMem a16
  | .di => .movDiMem a16

/-- `MOV [a16],w` (R278). -/
def Instr.movStore16 (x0 : WReg) (a16 : Word) : Instr :=
  match x0 with
  | .sp => .movMemSp a16
  | .bp => .movMemBp a16
  | .si => .movMemSi a16
  | .di => .movMemDi a16

/-- `MOV wd,ws` (R276); none where the registers are the same. -/
def Instr.movCopy16 (x0 : WReg) (x1 : WReg) : Option Instr :=
  match x0, x1 with
  | .sp, .sp => none
  | .sp, .bp => some .movSpBp
  | .sp, .si => some .movSpSi
  | .sp, .di => some .movSpDi
  | .bp, .sp => some .movBpSp
  | .bp, .bp => none
  | .bp, .si => some .movBpSi
  | .bp, .di => some .movBpDi
  | .si, .sp => some .movSiSp
  | .si, .bp => some .movSiBp
  | .si, .si => none
  | .si, .di => some .movSiDi
  | .di, .sp => some .movDiSp
  | .di, .bp => some .movDiBp
  | .di, .si => some .movDiSi
  | .di, .di => none

/-- `MOV r,b[d8]` (R277). -/
def Instr.movLoadIdx8 (x0 : GReg) (x1 : BaseReg) (d8 : Byte) : Instr :=
  match x0, x1 with
  | .a, .bp => .movABpIdx d8
  | .a, .si => .movASiIdx d8
  | .a, .di => .movADiIdx d8
  | .b, .bp => .movBBpIdx d8
  | .b, .si => .movBSiIdx d8
  | .b, .di => .movBDiIdx d8
  | .c, .bp => .movCBpIdx d8
  | .c, .si => .movCSiIdx d8
  | .c, .di => .movCDiIdx d8
  | .d, .bp => .movDBpIdx d8
  | .d, .si => .movDSiIdx d8
  | .d, .di => .movDDiIdx d8

/-- `MOV b[d8],r` (R279). -/
def Instr.movStoreIdx8 (x0 : BaseReg) (x1 : GReg) (d8 : Byte) : Instr :=
  match x0, x1 with
  | .bp, .a => .movBpIdxA d8
  | .bp, .b => .movBpIdxB d8
  | .bp, .c => .movBpIdxC d8
  | .bp, .d => .movBpIdxD d8
  | .si, .a => .movSiIdxA d8
  | .si, .b => .movSiIdxB d8
  | .si, .c => .movSiIdxC d8
  | .si, .d => .movSiIdxD d8
  | .di, .a => .movDiIdxA d8
  | .di, .b => .movDiIdxB d8
  | .di, .c => .movDiIdxC d8
  | .di, .d => .movDiIdxD d8

/-- `MOV w,BP[d8]` (R280). -/
def Instr.movLoadIdx16 (x0 : IndexReg) (d8 : Byte) : Instr :=
  match x0 with
  | .si => .movSiBpIdx d8
  | .di => .movDiBpIdx d8

/-- `MOV BP[d8],w` (R281). -/
def Instr.movStoreIdx16 (x0 : IndexReg) (d8 : Byte) : Instr :=
  match x0 with
  | .si => .movBpIdxSi d8
  | .di => .movBpIdxDi d8

/-- `PUSH r` (45_stack.md R331). -/
def Instr.push8 (x0 : GReg) : Instr :=
  match x0 with
  | .a => .pushA
  | .b => .pushB
  | .c => .pushC
  | .d => .pushD

/-- `POP r` (R332). -/
def Instr.pop8 (x0 : GReg) : Instr :=
  match x0 with
  | .a => .popA
  | .b => .popB
  | .c => .popC
  | .d => .popD

/-- `PUSH w` (R334). -/
def Instr.push16 (x0 : BaseReg) : Instr :=
  match x0 with
  | .bp => .pushBp
  | .si => .pushSi
  | .di => .pushDi

/-- `POP w` (R335). -/
def Instr.pop16 (x0 : BaseReg) : Instr :=
  match x0 with
  | .bp => .popBp
  | .si => .popSi
  | .di => .popDi

/-- `Jcc #t16` (46_control_flow.md R351). -/
def Instr.jumpIf (x0 : Branch) (t16 : Word) : Instr :=
  match x0 with
  | .jz => .jz t16
  | .jnz => .jnz t16
  | .jc => .jc t16
  | .jnc => .jnc t16
  | .jv => .jv t16
  | .jnv => .jnv t16

/-- `OP x,y` (44_alu_instructions.md R300, R308). -/
def Instr.aluReg (x0 : BinaryOp) (x1 : RegPair) : Instr :=
  match x0, x1 with
  | .add, .ab => .addAB
  | .add, .ac => .addAC
  | .add, .ad => .addAD
  | .add, .bc => .addBC
  | .add, .bd => .addBD
  | .add, .cd => .addCD
  | .adc, .ab => .adcAB
  | .adc, .ac => .adcAC
  | .adc, .ad => .adcAD
  | .adc, .bc => .adcBC
  | .adc, .bd => .adcBD
  | .adc, .cd => .adcCD
  | .sub, .ab => .subAB
  | .sub, .ac => .subAC
  | .sub, .ad => .subAD
  | .sub, .bc => .subBC
  | .sub, .bd => .subBD
  | .sub, .cd => .subCD
  | .sbb, .ab => .sbbAB
  | .sbb, .ac => .sbbAC
  | .sbb, .ad => .sbbAD
  | .sbb, .bc => .sbbBC
  | .sbb, .bd => .sbbBD
  | .sbb, .cd => .sbbCD
  | .and, .ab => .andAB
  | .and, .ac => .andAC
  | .and, .ad => .andAD
  | .and, .bc => .andBC
  | .and, .bd => .andBD
  | .and, .cd => .andCD
  | .or, .ab => .orAB
  | .or, .ac => .orAC
  | .or, .ad => .orAD
  | .or, .bc => .orBC
  | .or, .bd => .orBD
  | .or, .cd => .orCD
  | .xor, .ab => .xorAB
  | .xor, .ac => .xorAC
  | .xor, .ad => .xorAD
  | .xor, .bc => .xorBC
  | .xor, .bd => .xorBD
  | .xor, .cd => .xorCD
  | .cmp, .ab => .cmpAB
  | .cmp, .ac => .cmpAC
  | .cmp, .ad => .cmpAD
  | .cmp, .bc => .cmpBC
  | .cmp, .bd => .cmpBD
  | .cmp, .cd => .cmpCD

/-- `OP r,#i8` (R309, R317). -/
def Instr.aluImm (x0 : BinaryOp) (x1 : GReg) (i8 : Byte) : Instr :=
  match x0, x1 with
  | .add, .a => .addAImm i8
  | .add, .b => .addBImm i8
  | .add, .c => .addCImm i8
  | .add, .d => .addDImm i8
  | .adc, .a => .adcAImm i8
  | .adc, .b => .adcBImm i8
  | .adc, .c => .adcCImm i8
  | .adc, .d => .adcDImm i8
  | .sub, .a => .subAImm i8
  | .sub, .b => .subBImm i8
  | .sub, .c => .subCImm i8
  | .sub, .d => .subDImm i8
  | .sbb, .a => .sbbAImm i8
  | .sbb, .b => .sbbBImm i8
  | .sbb, .c => .sbbCImm i8
  | .sbb, .d => .sbbDImm i8
  | .and, .a => .andAImm i8
  | .and, .b => .andBImm i8
  | .and, .c => .andCImm i8
  | .and, .d => .andDImm i8
  | .or, .a => .orAImm i8
  | .or, .b => .orBImm i8
  | .or, .c => .orCImm i8
  | .or, .d => .orDImm i8
  | .xor, .a => .xorAImm i8
  | .xor, .b => .xorBImm i8
  | .xor, .c => .xorCImm i8
  | .xor, .d => .xorDImm i8
  | .cmp, .a => .cmpAImm i8
  | .cmp, .b => .cmpBImm i8
  | .cmp, .c => .cmpCImm i8
  | .cmp, .d => .cmpDImm i8

/-- `OP r` (R318). -/
def Instr.aluUnary (x0 : UnaryOp) (x1 : GReg) : Instr :=
  match x0, x1 with
  | .not, .a => .notA
  | .not, .b => .notB
  | .not, .c => .notC
  | .not, .d => .notD
  | .shl, .a => .shlA
  | .shl, .b => .shlB
  | .shl, .c => .shlC
  | .shl, .d => .shlD
  | .shr, .a => .shrA
  | .shr, .b => .shrB
  | .shr, .c => .shrC
  | .shr, .d => .shrD
  | .clr, .a => .clrA
  | .clr, .b => .clrB
  | .clr, .c => .clrC
  | .clr, .d => .clrD
  | .inc, .a => .incA
  | .inc, .b => .incB
  | .inc, .c => .incC
  | .inc, .d => .incD
  | .dec, .a => .decA
  | .dec, .b => .decB
  | .dec, .c => .decC
  | .dec, .d => .decD

/-- `IN r,#ch` (47_io_system.md R371). -/
def Instr.input (x0 : GReg) (x1 : Port) : Instr :=
  match x0, x1 with
  | .a, .p0 => .inA0
  | .a, .p1 => .inA1
  | .b, .p0 => .inB0
  | .b, .p1 => .inB1
  | .c, .p0 => .inC0
  | .c, .p1 => .inC1
  | .d, .p0 => .inD0
  | .d, .p1 => .inD1

/-- `OUT #ch,r` (R372). -/
def Instr.output (x0 : Port) (x1 : GReg) : Instr :=
  match x0, x1 with
  | .p0, .a => .out0A
  | .p0, .b => .out0B
  | .p0, .c => .out0C
  | .p0, .d => .out0D
  | .p1, .a => .out1A
  | .p1, .b => .out1B
  | .p1, .c => .out1C
  | .p1, .d => .out1D

end Sys2Proof
end

