-- ==== Sys2Proof/Machine/Harness.lean ====
section
/-! DEFINITION. The host operations of the harness (60_exceptions.md R430 to R436), as functions on the state. They act between
runs and are no part of a step. -/

namespace Sys2Proof.Machine

open Sys2Proof

/-- The error taxonomy (60_exceptions.md R400). NoMicroCode is never raised (90_conflicts.md C6). -/
inductive ErrorCode where
  | noError | invalidComponentID | protectedMemory | invalidInstruction | invalidMicroCode | noMicroCode | generalError
deriving DecidableEq, Repr

/-- The code of each error (60_exceptions.md R400). -/
def errorNumber : ErrorCode → Nat
  | .noError => 0
  | .invalidComponentID => 1
  | .protectedMemory => 2
  | .invalidInstruction => 3
  | .invalidMicroCode => 4
  | .noMicroCode => 5
  | .generalError => 6

/-- The taxonomy value of a fault: all an error records (60_exceptions.md R401). -/
def Fault.code : Fault → ErrorCode
  | .invalidComponentID _ => .invalidComponentID
  | .protectedMemory _ => .protectedMemory
  | .invalidInstruction _ => .invalidInstruction
  | .invalidMicroCode _ => .invalidMicroCode

/-- What a host operation gives back: a taxonomy value and the state, or the model's refusal (log 10). -/
inductive HostResult where
  | done (e : ErrorCode) (s : State)
  | refused (r : Refusal)
deriving DecidableEq, Repr

/-- An outcome as the host sees it. -/
def hostResult : Out → HostResult
  | .next s => .done .noError s
  | .fault f => .done f.code f.left
  | .refused r => .refused r

/-- `reset()` (60_exceptions.md R431, 10_state.md R50): registers, flags, bus, control lines, controller and counter go to
their reset values; memory, channels, run mode and microcode table stay (70_reset_and_hazards.md R441), and so does what the
host owns, the input bytes, the outputs and the event history (log 15). -/
def hostReset (s : State) : State :=
  { s with regs := Regs.reset
           flags := Flags.reset
           bus := Bus.reset
           lines := { halt := false, suspend := false, nmi := false, runMode := s.lines.runMode }
           control := .fetchOpcode1
           count := 0 }

/-- The result of a bounded `run`: halted with the cycle count, the first error, a refusal, or still running when the bound is
reached, which is no machine event (93_implementation_defined.md item 18, log 16). -/
inductive RunResult where
  | halted (count : Nat) (s : State)
  | error (e : ErrorCode) (s : State)
  | refused (r : Refusal)
  | running (s : State)
deriving DecidableEq, Repr

/-- The entry of `run` (42_controller.md R248): PC, halt and the count, and nothing else. -/
def beginRun (start : Word) (s : State) : State :=
  { s with regs := { s.regs with pc := start }, lines := { s.lines with halt := false }, count := 0 }

/-- The loop of `run` (42_controller.md R248), at most `fuel` instructions. -/
def runLoop : Nat → State → RunResult
  | 0, s => .running s
  | fuel + 1, s =>
    match step s with
    | .next t => if t.lines.halt then .halted t.count t else runLoop fuel t
    | .fault f => .error f.code f.left
    | .refused r => .refused r

/-- `run(start)` (42_controller.md R248, 60_exceptions.md R432), at most `fuel` instructions. -/
def run (fuel : Nat) (start : Word) (s : State) : RunResult := runLoop fuel (beginRun start s)

/-- `cycle(step)` (40_bus_transactions.md R173): one transaction without the controller; an ill-formed step returns
InvalidMicroCode and changes nothing. -/
def hostCycle (st : Step) (s : State) : HostResult :=
  if st.wellFormed then hostResult (cycle st false none s) else .done .invalidMicroCode s

/-- `peek(a)` (20_memory.md R70): the byte, or ProtectedMemory; the state does not change. -/
def peek (a : Word) (s : State) : Except ErrorCode Byte :=
  match s.mem.readByte a.toNat with
  | some b => .ok b
  | none => .error .protectedMemory

/-- `poke(a, v)` (20_memory.md R70). -/
def poke (a : Word) (v : Byte) (s : State) : HostResult :=
  match s.mem.writeByte a.toNat v with
  | some m => .done .noError { s with mem := m }
  | none => .done .protectedMemory s

/-- `add(start, size, writable, image)` (20_memory.md R63). -/
def addBank (start : Word) (size : Nat) (writable : Bool) (image : Option (List Byte)) (s : State) : HostResult :=
  match s.mem.add start.toNat size writable image with
  | some m => .done .noError { s with mem := m }
  | none => .done .generalError s

/-- `remove(start)` (20_memory.md R64). -/
def removeBank (start : Word) (s : State) : HostResult := .done .noError { s with mem := s.mem.remove start.toNat }

/-- `insertIO(ch, channel)` (60_exceptions.md R433): a used channel id is rejected. -/
def insertIO (ch : Fin 16) (d : Direction) (s : State) : HostResult :=
  match s.io.channels[ch.val] with
  | none => .done .noError { s with io := { s.io with channels := s.io.channels.set ch.val (some d) } }
  | some _ => .done .invalidComponentID s

/-- The host's byte source for a channel gets more bytes to supply (60_exceptions.md R435, 47_io_system.md R375). -/
def supplyInput (ch : Fin 16) (bytes : List Byte) (s : State) : State :=
  { s with io := { s.io with input := s.io.input.set ch.val (s.io.input[ch.val] ++ bytes) } }

/-- `component(address)` (60_exceptions.md R434): only NONE names no component. -/
def component (id : BitVec 4) : Option CompId :=
  if CompId.ofCode id = .none then none else some (.ofCode id)

/-- The host supplies the microcode table (30_encoding.md R110). -/
def setTable (t : MicrocodeTable) (s : State) : State := { s with table := t }

/-- The host sets the opaque run mode (10_state.md R42). -/
def setRunMode (m : Nat) (s : State) : State := { s with lines := { s.lines with runMode := m } }

/-- The bus operations `xdata`, `xaddr` and `io` (60_exceptions.md R436): program one transaction, `bus.done` included
(40_bus_transactions.md R142). No rule says what `bus.done` holds after them: their opflags argument is taken as the four-bit
selector `f` and the Done bit `done`, the two parts of opflags in 00_scope.md R12 (DEDUCED, log 17, safe). -/
def programTransaction (k : Kind) (get put : CompId) (f : OpFlags) (done : Bool) (s : State) : State :=
  programBus { kind := k, get := get, put := put, opflags := f, done := done } s

/-- `putOnDataBus` (60_exceptions.md R436). -/
def putOnDataBus (v : Byte) (s : State) : State := s.driveData v

/-- `putOnAddrBus` (60_exceptions.md R436). -/
def putOnAddrBus (v : Byte) (s : State) : State := { s with bus := { s.bus with addr := v } }

/-- `readDataBus` (60_exceptions.md R436). -/
def readDataBus (s : State) : Byte := s.bus.data

/-- `readAddrBus` (60_exceptions.md R436). -/
def readAddrBus (s : State) : Byte := s.bus.addr

/-- The three flags by name. -/
inductive FlagName where
  | z | c | v
deriving DecidableEq, Repr

/-- A flag written by the host: `setFlag` with true, `clearFlag` with false (60_exceptions.md R436). -/
def writeFlag (n : FlagName) (x : Bool) (s : State) : State :=
  match n with
  | .z => { s with flags := { s.flags with z := x } }
  | .c => { s with flags := { s.flags with c := x } }
  | .v => { s with flags := { s.flags with v := x } }

/-- `clearFlags` (60_exceptions.md R436). -/
def clearFlags (s : State) : State := { s with flags := Flags.reset }

/-- `isSet` (60_exceptions.md R436). -/
def isSet (n : FlagName) (s : State) : Bool :=
  match n with
  | .z => s.flags.z
  | .c => s.flags.c
  | .v => s.flags.v

/-- `halt` (60_exceptions.md R436). -/
def hostHalt (s : State) : State := { s with lines := { s.lines with halt := true } }

/-- `stop`, which the spec treats as `halt` (60_exceptions.md R436, 93_implementation_defined.md item 19). -/
def hostStop (s : State) : State := hostHalt s

/-- `suspend` (60_exceptions.md R436): the inert bit. -/
def hostSuspend (s : State) : State := { s with lines := { s.lines with suspend := true } }

/-- `setNmi` with true, `clearNmi` with false (60_exceptions.md R410, R436): the inert bit. -/
def writeNmi (x : Bool) (s : State) : State := { s with lines := { s.lines with nmi := x } }

end Sys2Proof.Machine
end

