-- ==== Sys2Proof/Safety.lean ====
section
/-! DEFINITION. The terms claims are stated in: a machine ready to run an instruction, an instruction that retires or ends in an
error, what it leaves undisturbed, and the ALU as arithmetic on numbers, apart from the model's own ALU. -/

namespace Sys2Proof.Machine

open Sys2Proof

/-- The controller may start an instruction of the default table: not halted, between instructions, the default table in
force (42_controller.md R245, 30_encoding.md R110). -/
def Ready (s : State) : Prop := s.lines.halt = false ∧ s.control = .fetchOpcode1 ∧ s.table = .default

/-- The state is canonical: memory is in its one form, and the controller, if inside an instruction, runs a well-formed
entry. -/
def Canonical (s : State) : Prop :=
  s.mem.wf ∧ ∀ e k, s.control = .running e k → e.wellFormed = true

/-- The instruction completes from `s` in `t` after `n` counted cycles: it answers a next state, the counter has the cycles,
and the controller is between instructions (42_controller.md R240). -/
def Retires (i : Instr) (n : Nat) (s t : State) : Prop :=
  exec i s = .next t ∧ t.count = s.count + n ∧ t.control = .fetchOpcode1

/-- The instruction ends in an error that leaves `l`: it does not retire, no cycle is counted, and the flags are as before
(60_exceptions.md R402). -/
def Errs (i : Instr) (error : State → Fault) (s l : State) : Prop :=
  exec i s = .fault (error l) ∧ l.count = s.count ∧ l.flags = s.flags

/-- The control lines, the I/O side, the microcode table and the banks are as before. -/
def Undisturbed (s t : State) : Prop :=
  t.lines = s.lines ∧ t.io = s.io ∧ t.table = s.table ∧ t.mem.banks = s.mem.banks

/-- Every byte of memory reads as before. -/
def MemorySame (s t : State) : Prop := ∀ x, t.mem.readByte x = s.mem.readByte x

/-- One byte is stored: its address reads the byte, every other address reads as before. -/
def StoresByte (s t : State) (a : Word) (v : Byte) : Prop :=
  ∀ x, t.mem.readByte x = if x = a.toNat then some v else s.mem.readByte x

/-- Two bytes are stored: their addresses read them, every other address reads as before. -/
def StoresTwoBytes (s t : State) (a : Word) (v : Byte) (a' : Word) (v' : Byte) : Prop :=
  ∀ x, t.mem.readByte x =
    if x = a.toNat then some v else if x = a'.toNat then some v' else s.mem.readByte x

/-- The registers after an instruction's bytes are fetched: IR holds the opcode, PC is past the instruction, and MEMADDR is
where the rule leaves it. -/
def fetchedFor (i : Instr) (memaddr : Word) (g : Regs) : Regs :=
  { g with ir := i.opcode, pc := g.pc + BitVec.ofNat 16 (encode i).length, memaddr := memaddr }

/-- The encoding a rule gives an instruction: opcode number, mode (and with it the length), subject, condition and steps. -/
def EncodedAs (i : Instr) (opcode : Nat) (mode : Mode) (subject : Option CompId) (cond : Option Cond)
    (steps : List Step) : Prop :=
  i.opcode = BitVec.ofNat 8 opcode ∧ (encode i).length = 1 + operandBytes mode ∧ (microcode i).mode = mode ∧
    (microcode i).subject = subject ∧ (microcode i).cond = cond ∧ (microcode i).steps = steps ∧
    (microcode i).msbFirst = false

/-- The carry in as a number. -/
def carryNat (cin : Bool) : Nat := if cin then 1 else 0

/-- The result of a binary operation as a number modulo 256 (41_alu.md R184 to R190); for CMP the difference, which is not
written. -/
def binaryResult (op : BinaryOp) (l r : Byte) (cin : Bool) : Byte :=
  match op with
  | .add => BitVec.ofNat 8 (l.toNat + r.toNat)
  | .adc => BitVec.ofNat 8 (l.toNat + r.toNat + carryNat cin)
  | .sub | .cmp => BitVec.ofNat 8 (256 + l.toNat - r.toNat)
  | .sbb => BitVec.ofNat 8 (512 + l.toNat - r.toNat - carryNat cin)
  | .and => l &&& r
  | .or => l ||| r
  | .xor => l ^^^ r

/-- The carry or borrow of a binary operation (41_alu.md R184 to R190, R195). -/
def binaryCarry (op : BinaryOp) (l r : Byte) (cin : Bool) : Bool :=
  match op with
  | .add => decide (0xFF < l.toNat + r.toNat)
  | .adc => decide (0xFF < l.toNat + r.toNat + carryNat cin)
  | .sub | .cmp => decide (l.toNat < r.toNat)
  | .sbb => decide (l.toNat < r.toNat + carryNat cin)
  | .and | .or | .xor => false

/-- The overflow of a binary operation, from the property of 41_alu.md R199: for ADD and ADC, the operands share a sign and the
result's sign differs; for SUB and SBB, the operands' signs differ and the result's sign differs from the left operand's; for
the others the old V. -/
def binaryOverflow (op : BinaryOp) (l r res : Byte) (old : Bool) : Bool :=
  match op with
  | .add | .adc => decide (l.msb = r.msb ∧ res.msb ≠ l.msb)
  | .sub | .sbb => decide (l.msb ≠ r.msb ∧ res.msb ≠ l.msb)
  | .and | .or | .xor | .cmp => old

/-- The flags a binary operation leaves (41_alu.md R183, R199). -/
def binaryFlags (op : BinaryOp) (l r : Byte) (f : Flags) : Flags :=
  let res := binaryResult op l r f.c
  { z := decide (res = 0), c := binaryCarry op l r f.c, v := binaryOverflow op l r res f.v }

/-- The result of a unary operation (41_alu.md R191 to R194, R196, R197). -/
def unaryResult (op : UnaryOp) (r : Byte) : Byte :=
  match op with
  | .not => BitVec.ofNat 8 (255 - r.toNat)
  | .shl => BitVec.ofNat 8 (2 * r.toNat)
  | .shr => BitVec.ofNat 8 (r.toNat / 2)
  | .clr => 0
  | .inc => BitVec.ofNat 8 (r.toNat + 1)
  | .dec => BitVec.ofNat 8 (255 + r.toNat)

/-- The flags a unary operation leaves: SHL carries out bit 7, INC carries from 0xFF, DEC borrows from 0x00, the others clear C;
V stays (41_alu.md R191 to R194, R196, R197). -/
def unaryFlags (op : UnaryOp) (r : Byte) (f : Flags) : Flags :=
  { z := decide (unaryResult op r = 0)
    c := match op with
      | .shl => decide (128 ≤ r.toNat)
      | .inc => decide (r.toNat = 0xFF)
      | .dec => decide (r.toNat = 0)
      | .not | .shr | .clr => false
    v := f.v }

/-- An outcome with its state changed by `f`. -/
def relabel (f : State → State) : Out → Out
  | .next s => .next (f s)
  | .fault e => .fault (e.mapLeft f)
  | .refused r => .refused r

/-- The state with another RHS latch. -/
def State.withRhs (s : State) (x : Byte) : State := { s with regs := { s.regs with rhs := x } }

/-- The state with other host lines that no rule reads: suspend, nmi and the run mode (10_state.md R42). -/
def State.withInertLines (s : State) (suspend nmi : Bool) (runMode : Nat) : State :=
  { s with lines := { s.lines with suspend := suspend, nmi := nmi, runMode := runMode } }

/-- The state an error left, and the events told since: no instruction is reported retired and no cycle is counted
(42_controller.md R242). -/
def NothingRetired (s l : State) : Prop :=
  l.count = s.count ∧ ∃ told, l.events = told ++ s.events ∧ ∀ m, .retired m ∉ told

/-- The register a word operand is fetched into: the subject of an ImmediateWord entry, TX for the indirect modes
(42_controller.md R229, R230, R231). -/
def wordSubject (e : Entry) : AddrReg :=
  match e.mode, e.subject with
  | .immediateWord, some (.addr r) => r
  | _, _ => .tx

end Sys2Proof.Machine
end

