-- ==== Sys2Proof/Certificates/Slice0/Obligations.lean ====
section
/-! DEFINITION. The statements for the provers, from the numbered rules of spec/. A statement about an instruction is about
every state; `Retires`, `Errs`, `Undisturbed`, `MemorySame`, `StoresByte` and `EncodedAs` are the terms of Safety.lean, and
the instruction families (`Instr.movImm8`, `Instr.aluReg`, …) those of Machine/Families.lean. -/

open Sys2Proof Sys2Proof.Machine

/-! ### Encoding -/

/-- Decoding an encoded instruction gives it back, whatever follows it (30_encoding.md sections 1 and 2). -/
def Obligations.DecodeEncodeRoundTrip : Prop :=
  ∀ (i : Instr) (rest : List Byte), decode (encode i ++ rest) = .ok (i, rest)

/-- Bytes that decode are the encoding of what they decode to, followed by what is left (30_encoding.md sections 1 and 2). -/
def Obligations.EncodeDecodeRoundTrip : Prop :=
  ∀ (bytes rest : List Byte) (i : Instr), decode bytes = .ok (i, rest) → bytes = encode i ++ rest

/-- The opcode numbers of the default map are those of the formulas of 30_encoding.md R121. -/
def Obligations.OpcodeNumbersFollowFormulas : Prop :=
  (∀ (r : GReg) (v : Byte), (Instr.movImm8 r v).opcode.toNat = 0x01 + r.num) ∧
  (∀ (r : GReg) (a : Word), (Instr.movLoad8 r a).opcode.toNat = 0x05 + r.num) ∧
  (∀ (r : GReg) (a : Word), (Instr.movStore8 r a).opcode.toNat = 0x09 + r.num) ∧
  (∀ (rd rs : GReg) (i : Instr), Instr.movCopy8 rd rs = some i →
    i.opcode.toNat = 0x0D + 3 * rd.num + (if rs.num < rd.num then rs.num else rs.num - 1)) ∧
  (∀ rd rs : GReg, Instr.movCopy8 rd rs = none ↔ rd = rs) ∧
  (∀ (w : WReg) (x : Word), (Instr.movImm16 w x).opcode.toNat = 0x19 + w.num) ∧
  (∀ (w : WReg) (a : Word), (Instr.movLoad16 w a).opcode.toNat = 0x1D + w.num) ∧
  (∀ (w : WReg) (a : Word), (Instr.movStore16 w a).opcode.toNat = 0x21 + w.num) ∧
  (∀ (wd ws : WReg) (i : Instr), Instr.movCopy16 wd ws = some i →
    i.opcode.toNat = 0x25 + 3 * wd.num + (if ws.num < wd.num then ws.num else ws.num - 1)) ∧
  (∀ wd ws : WReg, Instr.movCopy16 wd ws = none ↔ wd = ws) ∧
  (∀ (r : GReg) (b : BaseReg) (d : Byte), (Instr.movLoadIdx8 r b d).opcode.toNat = 0x31 + 3 * r.num + b.num) ∧
  (∀ (b : BaseReg) (r : GReg) (d : Byte), (Instr.movStoreIdx8 b r d).opcode.toNat = 0x3D + 3 * r.num + b.num) ∧
  (∀ (w : IndexReg) (d : Byte), (Instr.movLoadIdx16 w d).opcode.toNat = 0x49 + w.num) ∧
  (∀ (w : IndexReg) (d : Byte), (Instr.movStoreIdx16 w d).opcode.toNat = 0x4B + w.num) ∧
  (∀ r : GReg, (Instr.push8 r).opcode.toNat = 0x50 + r.num) ∧
  (∀ r : GReg, (Instr.pop8 r).opcode.toNat = 0x54 + r.num) ∧
  (∀ b : BaseReg, (Instr.push16 b).opcode.toNat = 0x58 + b.num) ∧
  (∀ b : BaseReg, (Instr.pop16 b).opcode.toNat = 0x5B + b.num) ∧
  Instr.pushf.opcode = 0x5E#8 ∧ Instr.popf.opcode = 0x5F#8 ∧
  (∀ t : Word, (Instr.jmp t).opcode = 0x60#8) ∧
  (∀ (c : Branch) (t : Word), (Instr.jumpIf c t).opcode.toNat = 0x61 + c.num) ∧
  (∀ t : Word, (Instr.call t).opcode = 0x67#8) ∧ Instr.ret.opcode = 0x68#8 ∧
  (∀ (k : BinaryOp) (p : RegPair), (Instr.aluReg k p).opcode.toNat = 0x70 + 6 * k.num + p.num) ∧
  (∀ (k : BinaryOp) (r : GReg) (v : Byte), (Instr.aluImm k r v).opcode.toNat = 0xA0 + 4 * k.num + r.num) ∧
  (∀ (u : UnaryOp) (r : GReg), (Instr.aluUnary u r).opcode.toNat = 0xC0 + 4 * u.num + r.num) ∧
  (∀ (r : GReg) (ch : Port), (Instr.input r ch).opcode.toNat = 0xE0 + 2 * r.num + ch.num) ∧
  (∀ (ch : Port) (r : GReg), (Instr.output ch r).opcode.toNat = 0xE8 + 2 * r.num + ch.num) ∧
  Instr.nop.opcode = 0x00#8 ∧ Instr.hlt.opcode = 0xFF#8

/-- The 33 unassigned opcodes are exactly those of 30_encoding.md section 3; the decoder refuses each by name whatever follows,
and the default table has an entry for exactly the others. -/
def Obligations.UnassignedOpcodesRefused : Prop :=
  ∀ (op : Byte) (rest : List Byte),
    (if (0x4D ≤ op.toNat ∧ op.toNat ≤ 0x4F) ∨ (0x69 ≤ op.toNat ∧ op.toNat ≤ 0x6F) ∨
        (0xD8 ≤ op.toNat ∧ op.toNat ≤ 0xDF) ∨ (0xF0 ≤ op.toNat ∧ op.toNat ≤ 0xFE) then
      defaultEntry op = none ∧ decode (op :: rest) = .error (.unassigned op)
    else (defaultEntry op).isSome = true ∧ decode (op :: rest) ≠ .error (.unassigned op))

/-- Operand bytes are never checked: an assigned opcode with as many bytes after it as its mode takes decodes to an
instruction of that opcode, whatever the bytes are (30_encoding.md R95). -/
def Obligations.OperandBytesNeverRefused : Prop :=
  ∀ (op : Byte) (e : Entry) (operands rest : List Byte), defaultEntry op = some e →
    operands.length = operandBytes e.mode →
      ∃ i, decode (op :: operands ++ rest) = .ok (i, rest) ∧ encode i = op :: operands ∧ microcode i = e

/-- Words written out from the spec's encodings decode to the instructions they stand for (95_test_vectors.md sections 2 to
7). -/
def Obligations.DecodesWrittenWords : Prop :=
  decodeTableWord 8 0x00 = some .nop ∧
  decodeTableWord 16 0x1F01 = some (.movAImm 0x1F) ∧
  decodeTableWord 24 0x123406 = some (.movBMem 0x1234) ∧
  decodeTableWord 24 0x200019 = some (.movSpImm 0x2000) ∧
  decodeTableWord 16 0x8042 = some (.movDiIdxB 0x80) ∧
  decodeTableWord 8 0x5C = some .popSi ∧
  decodeTableWord 24 0x123467 = some (.call 0x1234) ∧
  decodeTableWord 8 0x70 = some .addAB ∧
  decodeTableWord 16 0x05BF = some (.cmpDImm 0x05) ∧
  decodeTableWord 8 0xCB = some .shrD ∧
  decodeTableWord 8 0xE9 = some .out1A ∧
  decodeTableWord 8 0xFF = some .hlt ∧
  decodeTableWord 8 0xF0 = none

/-! ### The machine -/

/-- A machine ready to start an instruction runs the instruction that the bytes at PC decode to. -/
def Obligations.StepRunsDecodedInstruction : Prop :=
  ∀ (s : State) (i : Instr) (rest : List Byte), Ready s → decode (fetchBytes s) = .ok (i, rest) → step s = exec i s

/-- A step is the controller's run of the microcode, each byte of the instruction read from memory in its own cycle: the
meaning that is given the instruction's bytes and the run that fetches them agree, whatever the table and the memory
(42_controller.md sections 1 and 2; log 11). -/
def Obligations.StepIsTheMicrocodeRun : Prop :=
  ∀ s : State, s.lines.halt = false → step s = finishInstruction s

/-- A step is a number of single cycles. If it completes, so many cycles reach the same state and the counter grows by that
number; if it ends in an error or a refusal, some cycles complete and the next one gives that very error or refusal
(42_controller.md sections 1, 4 and 6). -/
def Obligations.ClocksComposeToStep : Prop :=
  ∀ s : State, s.lines.halt = false → s.control = .fetchOpcode1 →
    (∀ t, step s = .next t → ∃ n, clocks n s = .next t ∧ t.count = s.count + n) ∧
    (∀ f, step s = .fault f → ∃ n u, clocks n s = .next u ∧ clock u = .fault f ∧ NothingRetired s f.left) ∧
    (∀ r, step s = .refused r → ∃ n u, clocks n s = .next u ∧ clock u = .refused r)

/-- Every step and every cycle keeps the canonical form of memory (banks disjoint, in order and inside the space; cells
rising, mapped, none equal to an unlisted byte) and a well-formed entry in the controller, in the error state too. -/
def Obligations.StepKeepsCanonical : Prop :=
  ∀ s : State, Canonical s →
    (∀ t, step s = .next t → Canonical t) ∧ (∀ f, step s = .fault f → Canonical f.left) ∧
    (∀ t, clock s = .next t → Canonical t) ∧ (∀ f, clock s = .fault f → Canonical f.left)

/-- The state after reset, which has no bank yet (70_reset_and_hazards.md section 2, log 4), is canonical. -/
def Obligations.ResetIsCanonical : Prop := Canonical State.reset

/-- Reset of any state gives the values of 10_state.md R50 and leaves the banks, their contents, the channels and the run mode;
execution starts at the address the host gives `run`. -/
def Obligations.ResetValues : Prop :=
  ∀ s : State,
    (hostReset s).regs = ⟨0x00, 0x00, 0x00, 0x00, 0x00, 0x00, 0x00, 0x0000, 0x0000, 0x0000, 0x0000, 0x0000, 0x0000, 0x0000⟩ ∧
    (hostReset s).flags = ⟨false, false, false⟩ ∧
    (hostReset s).lines.halt = false ∧ (hostReset s).lines.suspend = false ∧ (hostReset s).lines.nmi = false ∧
    (hostReset s).bus = ⟨0x00, 0x00, .none, .none, .other, 0x0, false⟩ ∧
    (hostReset s).lines.runMode = s.lines.runMode ∧
    (hostReset s).control = .fetchOpcode1 ∧ (hostReset s).count = 0 ∧
    (hostReset s).mem = s.mem ∧ (hostReset s).io.channels = s.io.channels ∧
    (∀ start : Word, (beginRun start (hostReset s)).regs.pc = start)

/-- A halted controller starts no instruction; the model's step and cycle of a halted machine leave it as it is (the answer
is the model's choice, log 3; that no instruction starts is 42_controller.md section 4). -/
def Obligations.HaltedMachineStays : Prop :=
  ∀ s : State, s.lines.halt = true → s.control = .fetchOpcode1 → step s = .next s ∧ clock s = .next s

/-- The decode errors of 42_controller.md R241, under any table: an opcode without an entry raises InvalidInstruction, an
entry that is not well formed raises InvalidMicroCode, each after the two fetch cycles, with PC past the opcode and the
opcode in IR. -/
def Obligations.DecodeErrors : Prop :=
  ∀ (s : State) (op : Byte), s.lines.halt = false → s.control = .fetchOpcode1 →
    s.mem.readByte s.regs.pc.toNat = some op →
    (tableEntry s.table op = none → ∃ l, step s = .fault (.invalidInstruction l) ∧
      l.regs = { s.regs with ir := op, pc := s.regs.pc + 1, memaddr := s.regs.pc } ∧ l.flags = s.flags ∧
      Undisturbed s l ∧ MemorySame s l ∧ NothingRetired s l) ∧
    (∀ e, tableEntry s.table op = some e → e.wellFormed = false → ∃ l, step s = .fault (.invalidMicroCode l) ∧
      l.regs = { s.regs with ir := op, pc := s.regs.pc + 1, memaddr := s.regs.pc } ∧ l.flags = s.flags ∧
      Undisturbed s l ∧ MemorySame s l ∧ NothingRetired s l)

/-- An unmapped byte of the instruction stream raises ProtectedMemory at the cycle that reads it, under the default table, and
leaves exactly what the cycles before it did (42_controller.md sections 2 and 4). -/
def Obligations.UnmappedStreamByteFaults : Prop :=
  ∀ s : State, Ready s →
    (s.mem.readByte s.regs.pc.toNat = none → ∃ l, step s = .fault (.protectedMemory l) ∧
      l.regs = { s.regs with pc := s.regs.pc + 1, memaddr := s.regs.pc } ∧ l.flags = s.flags ∧ Undisturbed s l ∧
      MemorySame s l ∧ NothingRetired s l) ∧
    (∀ (op : Byte) (e : Entry), s.mem.readByte s.regs.pc.toNat = some op → defaultEntry op = some e →
      (operandBytes e.mode = 1 → s.mem.readByte (s.regs.pc + 1).toNat = none → ∃ l, step s = .fault (.protectedMemory l) ∧
        l.regs = { s.regs with ir := op, pc := s.regs.pc + 2, memaddr := s.regs.pc + 1 } ∧ l.flags = s.flags ∧
        Undisturbed s l ∧ MemorySame s l ∧ NothingRetired s l) ∧
      (operandBytes e.mode = 2 → s.mem.readByte (s.regs.pc + 1).toNat = none → ∃ l, step s = .fault (.protectedMemory l) ∧
        l.regs = { s.regs with ir := op, pc := s.regs.pc + 1, memaddr := s.regs.pc + 1 } ∧ l.flags = s.flags ∧
        Undisturbed s l ∧ MemorySame s l ∧ NothingRetired s l) ∧
      (∀ lo : Byte, operandBytes e.mode = 2 → s.mem.readByte (s.regs.pc + 1).toNat = some lo →
        s.mem.readByte (s.regs.pc + 2).toNat = none → ∃ l, step s = .fault (.protectedMemory l) ∧
        (let g := { s.regs with ir := op, pc := s.regs.pc + 1, memaddr := s.regs.pc + 2 }
         l.regs = g.setWord (wordSubject e) (word (hi8 (g.getWord (wordSubject e))) lo)) ∧ l.flags = s.flags ∧
        Undisturbed s l ∧ MemorySame s l ∧ NothingRetired s l))

/-- Retire: an instruction that completes adds its cycle cost to the counter, is the one instruction reported, and leaves the
controller between instructions; one that raises adds nothing and is not reported (42_controller.md R240). -/
def Obligations.RetireCountsAndReports : Prop :=
  ∀ (i : Instr) (s : State),
    (∀ t, exec i s = .next t →
      t.count = s.count + (2 + fetchCycles (microcode i).mode + (microcode i).steps.length) ∧
      t.control = .fetchOpcode1 ∧
      ∃ told, t.events = .retired (microcode i).mnemonic :: (told ++ s.events) ∧ ∀ m, .retired m ∉ told) ∧
    (∀ f, exec i s = .fault f → NothingRetired s f.left)

/-- The errors of the default table: an instruction raises ProtectedMemory or, if it is an IN or an OUT, InvalidComponentID;
never InvalidMicroCode or InvalidInstruction; and only an IN is refused. The error leaves the controller between
instructions, which is the model's choice (log 2). -/
def Obligations.ErrorsOfTheDefaultTable : Prop :=
  ∀ (i : Instr) (s : State),
    (∀ f, exec i s = .fault f → f.left.control = .fetchOpcode1 ∧
      (f.code = .protectedMemory ∨
      f.code = .invalidComponentID ∧ ((∃ r p, i = .input r p) ∨ ∃ p r, i = .output p r))) ∧
    (∀ r, exec i s = .refused r → ∃ g p, i = .input g p ∧ r = .inputExhausted p.channel)

/-- No step changes what the host configured, in the error state too and under any table: the banks, the bytes at addresses
that are unmapped or in a read-only bank, the installed channels, the microcode table, suspend, nmi and the run mode; and
no step clears halt (10_state.md sections 5 and 7, 20_memory.md section 8). -/
def Obligations.StepKeepsConfiguration : Prop :=
  ∀ s l : State, (step s = .next l ∨ ∃ f, step s = .fault f ∧ f.left = l) →
    l.mem.banks = s.mem.banks ∧ (∀ a, s.mem.writable a = false → l.mem.readByte a = s.mem.readByte a) ∧
    l.io.channels = s.io.channels ∧ l.table = s.table ∧
    l.lines.suspend = s.lines.suspend ∧ l.lines.nmi = s.lines.nmi ∧ l.lines.runMode = s.lines.runMode ∧
    (s.lines.halt = true → l.lines.halt = true)

/-- Suspend, nmi and the run mode have no effect: a step from a state with other values of them does the same and leaves those
values (10_state.md section 5). -/
def Obligations.HostLinesInert : Prop :=
  ∀ (s : State) (suspend nmi : Bool) (runMode : Nat),
    step (s.withInertLines suspend nmi runMode) = relabel (·.withInertLines suspend nmi runMode) (step s)

/-- RHS and the bus are not observable: an instruction run from another RHS and another bus ends the same, but for RHS
(10_state.md sections 2 and 5). -/
def Obligations.RhsAndBusNeverObserved : Prop :=
  ∀ (i : Instr) (s : State) (x y : Byte) (b : Bus),
    relabel (·.withRhs x) (exec i ({ s with bus := b }.withRhs y)) = relabel (·.withRhs x) (exec i s)

/-- Only ALU instructions and POPF change the flags, and no error does (10_state.md section 4, 70_reset_and_hazards.md section
3). -/
def Obligations.FlagsOnlyChangedByAluAndPopf : Prop :=
  ∀ (i : Instr) (s : State),
    (∀ t, exec i s = .next t → t.flags = s.flags ∨ (∃ k p, i = .aluReg k p) ∨ (∃ k r v, i = .aluImm k r v) ∨
      (∃ u r, i = .aluUnary u r) ∨ i = .popf) ∧
    (∀ f, exec i s = .fault f → f.left.flags = s.flags)

/-! ### Memory and the host -/

/-- `MemWrite` and `poke`: a write at a mapped, writable address makes that byte read as written and leaves every other byte and
everything else; elsewhere it gives ProtectedMemory and changes nothing; `peek` gives the byte or ProtectedMemory
(20_memory.md R69, R70). -/
def Obligations.MemWriteAndPoke : Prop :=
  ∀ (s : State) (a : Word) (v : Byte),
    (s.mem.writable a.toNat = true →
      ∃ m, s.mem.writeByte a.toNat v = some m ∧ poke a v s = .done .noError { s with mem := m } ∧ m.banks = s.mem.banks ∧
        ∀ x, m.readByte x = if x = a.toNat then some v else s.mem.readByte x) ∧
    (s.mem.writable a.toNat = false → s.mem.writeByte a.toNat v = none ∧ poke a v s = .done .protectedMemory s) ∧
    (∀ b, s.mem.readByte a.toNat = some b → peek a s = .ok b) ∧
    (s.mem.bankOf a.toNat = none → peek a s = .error .protectedMemory ∧ poke a v s = .done .protectedMemory s)

/-- Banks never overlap: `add` and `remove` keep the canonical form of memory, and in that form at most one bank covers any
address, the one `bankOf` gives (20_memory.md section 2). The order of the banks and the form of the cells that `Memory.wf` asks
for are the model's representation (log 4). -/
def Obligations.BanksNeverOverlap : Prop :=
  (∀ (m m' : Memory) (start size : Nat) (w : Bool) (image : Option (List Byte)), m.wf →
    m.add start size w image = some m' → m'.wf) ∧
  (∀ (m : Memory) (start : Nat), m.wf → (m.remove start).wf) ∧
  (∀ (m : Memory) (b : Bank) (a : Nat), m.wf → b ∈ m.banks → b.covers a = true → m.bankOf a = some b) ∧
  (∀ (m : Memory) (a : Nat), (m.bankOf a = none ↔ ∀ b ∈ m.banks, b.covers a = false) ∧
    (m.bankOf a = none ↔ m.readByte a = none))

/-- `add` of a block with an image (20_memory.md R63): inside a bank it overwrites just that range and the bank keeps its
flag; overlapping a bank otherwise it is rejected and nothing changes; else a new bank holds the image (without an image
0x00). -/
def Obligations.AddBankCases : Prop :=
  ∀ (s : State) (start : Word) (size : Nat) (w : Bool) (image : List Byte),
    1 ≤ size → start.toNat + size ≤ 0x10000 → image.length = size →
    ((∃ k ∈ s.mem.banks, k.start ≤ start.toNat ∧ start.toNat + size ≤ k.start + k.size) →
      ∃ m, addBank start size w (some image) s = .done .noError { s with mem := m } ∧ m.banks = s.mem.banks ∧
        ∀ x, m.readByte x =
          if start.toNat ≤ x ∧ x < start.toNat + size then image[x - start.toNat]? else s.mem.readByte x) ∧
    ((∀ k ∈ s.mem.banks, ¬(k.start ≤ start.toNat ∧ start.toNat + size ≤ k.start + k.size)) →
      (∃ k ∈ s.mem.banks, start.toNat < k.start + k.size ∧ k.start < start.toNat + size) →
      ∀ img, addBank start size w img s = .done .generalError s) ∧
    ((∀ k ∈ s.mem.banks, ¬(start.toNat < k.start + k.size ∧ k.start < start.toNat + size)) →
      ∀ img, img = none ∨ img = some image →
      ∃ m, addBank start size w img s = .done .noError { s with mem := m } ∧
        (∀ k, k ∈ m.banks ↔ k ∈ s.mem.banks ∨ k = { start := start.toNat, size := size, writable := w }) ∧
        ∀ x, m.readByte x =
          if start.toNat ≤ x ∧ x < start.toNat + size then
            some ((img.getD (List.replicate size 0x00)).getD (x - start.toNat) 0x00)
          else s.mem.readByte x)

/-- The host's `cycle(step)` (40_bus_transactions.md R173): an ill-formed step returns InvalidMicroCode and changes nothing;
a well-formed one is one unsuppressed cycle with its error or NoError; the controller and the count stay. -/
def Obligations.HostCycle : Prop :=
  ∀ (st : Step) (s : State),
    (st.wellFormed = false → hostCycle st s = .done .invalidMicroCode s) ∧
    (∀ t, st.wellFormed = true → cycle st false none s = .next t → hostCycle st s = .done .noError t) ∧
    (∀ f, st.wellFormed = true → cycle st false none s = .fault f →
      hostCycle st s = .done f.code f.left ∧ f.code ≠ .invalidMicroCode) ∧
    (∀ e t, hostCycle st s = .done e t → t.control = s.control ∧ t.count = s.count)

/-! ### The ALU -/

/-- An ALU operation step of a binary operation from any byte register (41_alu.md R184 to R190, R195): LHS takes the result
(CMP writes none), RHS the operand, the flags as the rules give, no error, nothing else. -/
def Obligations.AluBinaryStep : Prop :=
  ∀ (k : BinaryOp) (x : ByteReg) (s : State),
    ∃ t, cycle (.xdata (.byte x) .alu k.alu.code) false none s = .next t ∧
      t.regs = { s.regs with
        lhs := if k = .cmp then s.regs.lhs else binaryResult k s.regs.lhs (s.regs.getByte x) s.flags.c
        rhs := s.regs.getByte x } ∧
      t.flags = binaryFlags k s.regs.lhs (s.regs.getByte x) s.flags ∧ Undisturbed s t ∧ t.mem = s.mem

/-- An ALU operation step of a unary operation (41_alu.md R191 to R194, R196, R197): LHS takes the result whatever it held. -/
def Obligations.AluUnaryStep : Prop :=
  ∀ (u : UnaryOp) (x : ByteReg) (s : State),
    ∃ t, cycle (.xdata (.byte x) .alu u.alu.code) false none s = .next t ∧
      t.regs = { s.regs with lhs := unaryResult u (s.regs.getByte x), rhs := s.regs.getByte x } ∧
      t.flags = unaryFlags u (s.regs.getByte x) s.flags ∧ Undisturbed s t ∧ t.mem = s.mem

/-- WADD and WSUB (41_alu.md R198): a step that selects either is not well formed; executed, its high clock raises
InvalidMicroCode and changes nothing; no entry of the default table uses them. -/
def Obligations.WideOperationsRaise : Prop :=
  (∀ (g : CompId) (d : Bool) (op : AluOp) (s : State), op = .wadd ∨ op = .wsub →
    (Step.mk .xdata g .alu op.code d).wellFormed = false ∧
    highClock (Step.mk .xdata g .alu op.code d) s = .fault (.invalidMicroCode s)) ∧
  (∀ (i : Instr) (st : Step), st ∈ (microcode i).steps → st.kind = .xdata → st.put = .alu →
    st.opflags ≠ AluOp.wadd.code ∧ st.opflags ≠ AluOp.wsub.code)

/-- The overflow rule of 41_alu.md R199, for all sixteen operations and all operands: ADD and ADC set V iff the operands share a
sign and the result's differs; SUB and SBB iff the operands' signs differ and the result's differs from the left one's;
the others leave V. -/
def Obligations.OverflowRule : Prop :=
  ∀ (op : AluOp) (s t : State), aluOperate op s = .next t →
    match op with
    | .add | .adc => t.flags.v = true ↔ (s.regs.lhs.msb = s.bus.data.msb ∧ t.regs.lhs.msb ≠ s.regs.lhs.msb)
    | .sub | .sbb => t.flags.v = true ↔ (s.regs.lhs.msb ≠ s.bus.data.msb ∧ t.regs.lhs.msb ≠ s.regs.lhs.msb)
    | _ => t.flags.v = s.flags.v

/-- V is signed overflow and C unsigned carry or borrow: after ADD, ADC, SUB and SBB the result in LHS, read as a signed or as
an unsigned number, is the exact sum or difference exactly when the flag is clear (41_alu.md section 4). -/
def Obligations.FlagsMeanExactness : Prop :=
  ∀ s t : State,
    let l := s.regs.lhs
    let r := s.bus.data
    let cin : Int := if s.flags.c then 1 else 0
    (aluOperate .add s = .next t →
      (t.flags.v = false ↔ t.regs.lhs.toInt = l.toInt + r.toInt) ∧
      (t.flags.c = false ↔ (t.regs.lhs.toNat : Int) = l.toNat + r.toNat)) ∧
    (aluOperate .adc s = .next t →
      (t.flags.v = false ↔ t.regs.lhs.toInt = l.toInt + r.toInt + cin) ∧
      (t.flags.c = false ↔ (t.regs.lhs.toNat : Int) = l.toNat + r.toNat + cin)) ∧
    (aluOperate .sub s = .next t →
      (t.flags.v = false ↔ t.regs.lhs.toInt = l.toInt - r.toInt) ∧
      (t.flags.c = false ↔ (t.regs.lhs.toNat : Int) = l.toNat - r.toNat)) ∧
    (aluOperate .sbb s = .next t →
      (t.flags.v = false ↔ t.regs.lhs.toInt = l.toInt - r.toInt - cin) ∧
      (t.flags.c = false ↔ (t.regs.lhs.toNat : Int) = l.toNat - r.toNat - cin))

/-! ### Data movement -/

/-- `MOV r,#i8` and `MOV w,#i16`: the immediate in the register, PC past the instruction, MEMADDR as the fetch leaves it,
nothing else (43_data_movement.md sections 1 and 2). -/
def Obligations.MovImmediate : Prop :=
  (∀ (r : GReg) (v : Byte) (s : State),
    ∃ t, Retires (.movImm8 r v) 4 s t ∧
      t.regs = fetchedFor (.movImm8 r v) (s.regs.pc + 1) (s.regs.setByte r.reg v) ∧
      t.flags = s.flags ∧ Undisturbed s t ∧ MemorySame s t) ∧
  (∀ (w : WReg) (x : Word) (s : State),
    ∃ t, Retires (.movImm16 w x) 6 s t ∧
      t.regs = fetchedFor (.movImm16 w x) (s.regs.pc + 3) (s.regs.setWord w.reg x) ∧
      t.flags = s.flags ∧ Undisturbed s t ∧ MemorySame s t)

/-- `MOV rd,rs` and `MOV wd,ws`: the whole register is copied, nothing else (43_data_movement.md sections 1 and 2). -/
def Obligations.MovCopy : Prop :=
  (∀ (rd rs : GReg) (i : Instr) (s : State), Instr.movCopy8 rd rs = some i →
    ∃ t, Retires i 3 s t ∧ t.regs = fetchedFor i s.regs.pc (s.regs.setByte rd.reg (s.regs.getByte rs.reg)) ∧
      t.flags = s.flags ∧ Undisturbed s t ∧ MemorySame s t) ∧
  (∀ (wd ws : WReg) (i : Instr) (s : State), Instr.movCopy16 wd ws = some i →
    ∃ t, Retires i 3 s t ∧ t.regs = fetchedFor i s.regs.pc (s.regs.setWord wd.reg (s.regs.getWord ws.reg)) ∧
      t.flags = s.flags ∧ Undisturbed s t ∧ MemorySame s t)

/-- `MOV r,[a16]`: the byte at the address; if it is unmapped, ProtectedMemory with TX, PC and MEMADDR already as the fetch
left them (43_data_movement.md section 1). -/
def Obligations.MovLoadByte : Prop :=
  ∀ (r : GReg) (a : Word) (s : State),
    (∀ v, s.mem.readByte a.toNat = some v → ∃ t, Retires (.movLoad8 r a) 8 s t ∧
      t.regs = fetchedFor (.movLoad8 r a) a ({ s.regs with tx := a }.setByte r.reg v) ∧
      t.flags = s.flags ∧ Undisturbed s t ∧ MemorySame s t) ∧
    (s.mem.readByte a.toNat = none → ∃ l, Errs (.movLoad8 r a) .protectedMemory s l ∧
      l.regs = fetchedFor (.movLoad8 r a) a { s.regs with tx := a } ∧ Undisturbed s l ∧ MemorySame s l)

/-- `MOV [a16],r`: the register's byte at the address, every other byte as before; if the address is unmapped or read-only,
ProtectedMemory with TX, PC and MEMADDR already changed and memory as before (43_data_movement.md section 1). -/
def Obligations.MovStoreByte : Prop :=
  ∀ (r : GReg) (a : Word) (s : State),
    (s.mem.writable a.toNat = true → ∃ t, Retires (.movStore8 r a) 8 s t ∧
      t.regs = fetchedFor (.movStore8 r a) a { s.regs with tx := a } ∧
      t.flags = s.flags ∧ Undisturbed s t ∧ StoresByte s t a (s.regs.getByte r.reg)) ∧
    (s.mem.writable a.toNat = false → ∃ l, Errs (.movStore8 r a) .protectedMemory s l ∧
      l.regs = fetchedFor (.movStore8 r a) a { s.regs with tx := a } ∧ Undisturbed s l ∧ MemorySame s l)

/-- `MOV w,[a16]`: the word at the address, low byte first, the second byte's address wrapping; an unmapped first byte leaves
the register, an unmapped second byte leaves its low half loaded (43_data_movement.md section 2). -/
def Obligations.MovLoadWord : Prop :=
  ∀ (w : WReg) (a : Word) (s : State),
    (∀ lo hi, s.mem.readByte a.toNat = some lo → s.mem.readByte (a + 1).toNat = some hi →
      ∃ t, Retires (.movLoad16 w a) 9 s t ∧
        t.regs = fetchedFor (.movLoad16 w a) (a + 1) ({ s.regs with tx := a }.setWord w.reg (word hi lo)) ∧
        t.flags = s.flags ∧ Undisturbed s t ∧ MemorySame s t) ∧
    (s.mem.readByte a.toNat = none → ∃ l, Errs (.movLoad16 w a) .protectedMemory s l ∧
      l.regs = fetchedFor (.movLoad16 w a) a { s.regs with tx := a } ∧ Undisturbed s l ∧ MemorySame s l) ∧
    (∀ lo, s.mem.readByte a.toNat = some lo → s.mem.readByte (a + 1).toNat = none →
      ∃ l, Errs (.movLoad16 w a) .protectedMemory s l ∧
        l.regs = fetchedFor (.movLoad16 w a) (a + 1)
          ({ s.regs with tx := a }.setWord w.reg (word (hi8 (s.regs.getWord w.reg)) lo)) ∧
        Undisturbed s l ∧ MemorySame s l)

/-- `MOV [a16],w`: the word at the address, low byte first; an error at the second byte leaves the first written
(43_data_movement.md section 2). -/
def Obligations.MovStoreWord : Prop :=
  ∀ (w : WReg) (a : Word) (s : State),
    (s.mem.writable a.toNat = true → s.mem.writable (a + 1).toNat = true → ∃ t, Retires (.movStore16 w a) 9 s t ∧
      t.regs = fetchedFor (.movStore16 w a) (a + 1) { s.regs with tx := a } ∧ t.flags = s.flags ∧ Undisturbed s t ∧
      StoresTwoBytes s t a (lo8 (s.regs.getWord w.reg)) (a + 1) (hi8 (s.regs.getWord w.reg))) ∧
    (s.mem.writable a.toNat = false → ∃ l, Errs (.movStore16 w a) .protectedMemory s l ∧
      l.regs = fetchedFor (.movStore16 w a) a { s.regs with tx := a } ∧ Undisturbed s l ∧ MemorySame s l) ∧
    (s.mem.writable a.toNat = true → s.mem.writable (a + 1).toNat = false →
      ∃ l, Errs (.movStore16 w a) .protectedMemory s l ∧
        l.regs = fetchedFor (.movStore16 w a) (a + 1) { s.regs with tx := a } ∧ Undisturbed s l ∧
        StoresByte s l a (lo8 (s.regs.getWord w.reg)))

/-- `MOV r,b[d8]`: the byte at base plus signed displacement, the sum wrapping; the displacement goes through the low half of
TX; the base is unchanged (43_data_movement.md section 3). -/
def Obligations.MovLoadIndexedByte : Prop :=
  ∀ (r : GReg) (b : BaseReg) (d : Byte) (s : State),
    let ea := BitVec.ofInt 16 ((s.regs.getWord b.reg).toNat + d.toInt)
    let g := { s.regs with tx := word (hi8 s.regs.tx) d }
    (∀ v, s.mem.readByte ea.toNat = some v → ∃ t, Retires (.movLoadIdx8 r b d) 7 s t ∧
      t.regs = fetchedFor (.movLoadIdx8 r b d) ea (g.setByte r.reg v) ∧
      t.flags = s.flags ∧ Undisturbed s t ∧ MemorySame s t) ∧
    (s.mem.readByte ea.toNat = none → ∃ l, Errs (.movLoadIdx8 r b d) .protectedMemory s l ∧
      l.regs = fetchedFor (.movLoadIdx8 r b d) ea g ∧ Undisturbed s l ∧ MemorySame s l)

/-- `MOV b[d8],r`: the register's byte at base plus signed displacement (43_data_movement.md section 3). -/
def Obligations.MovStoreIndexedByte : Prop :=
  ∀ (b : BaseReg) (r : GReg) (d : Byte) (s : State),
    let ea := BitVec.ofInt 16 ((s.regs.getWord b.reg).toNat + d.toInt)
    let g := { s.regs with tx := word (hi8 s.regs.tx) d }
    (s.mem.writable ea.toNat = true → ∃ t, Retires (.movStoreIdx8 b r d) 7 s t ∧
      t.regs = fetchedFor (.movStoreIdx8 b r d) ea g ∧
      t.flags = s.flags ∧ Undisturbed s t ∧ StoresByte s t ea (s.regs.getByte r.reg)) ∧
    (s.mem.writable ea.toNat = false → ∃ l, Errs (.movStoreIdx8 b r d) .protectedMemory s l ∧
      l.regs = fetchedFor (.movStoreIdx8 b r d) ea g ∧ Undisturbed s l ∧ MemorySame s l)

/-- `MOV SI,BP[d8]` and `MOV DI,BP[d8]`: the word at BP plus signed displacement, low byte first, with the partial states of
its two errors (43_data_movement.md section 3). -/
def Obligations.MovLoadIndexedWord : Prop :=
  ∀ (w : IndexReg) (d : Byte) (s : State),
    let ea := BitVec.ofInt 16 (s.regs.bp.toNat + d.toInt)
    let g := { s.regs with tx := word (hi8 s.regs.tx) d }
    (∀ lo hi, s.mem.readByte ea.toNat = some lo → s.mem.readByte (ea + 1).toNat = some hi →
      ∃ t, Retires (.movLoadIdx16 w d) 8 s t ∧
        t.regs = fetchedFor (.movLoadIdx16 w d) (ea + 1) (g.setWord w.reg (word hi lo)) ∧
        t.flags = s.flags ∧ Undisturbed s t ∧ MemorySame s t) ∧
    (s.mem.readByte ea.toNat = none → ∃ l, Errs (.movLoadIdx16 w d) .protectedMemory s l ∧
      l.regs = fetchedFor (.movLoadIdx16 w d) ea g ∧ Undisturbed s l ∧ MemorySame s l) ∧
    (∀ lo, s.mem.readByte ea.toNat = some lo → s.mem.readByte (ea + 1).toNat = none →
      ∃ l, Errs (.movLoadIdx16 w d) .protectedMemory s l ∧
        l.regs = fetchedFor (.movLoadIdx16 w d) (ea + 1) (g.setWord w.reg (word (hi8 (s.regs.getWord w.reg)) lo)) ∧
        Undisturbed s l ∧ MemorySame s l)

/-- `MOV BP[d8],SI` and `MOV BP[d8],DI`: the word at BP plus signed displacement, low byte first, with the partial states of
its two errors (43_data_movement.md section 3). -/
def Obligations.MovStoreIndexedWord : Prop :=
  ∀ (w : IndexReg) (d : Byte) (s : State),
    let ea := BitVec.ofInt 16 (s.regs.bp.toNat + d.toInt)
    let g := { s.regs with tx := word (hi8 s.regs.tx) d }
    (s.mem.writable ea.toNat = true → s.mem.writable (ea + 1).toNat = true → ∃ t, Retires (.movStoreIdx16 w d) 8 s t ∧
      t.regs = fetchedFor (.movStoreIdx16 w d) (ea + 1) g ∧ t.flags = s.flags ∧ Undisturbed s t ∧
      StoresTwoBytes s t ea (lo8 (s.regs.getWord w.reg)) (ea + 1) (hi8 (s.regs.getWord w.reg))) ∧
    (s.mem.writable ea.toNat = false → ∃ l, Errs (.movStoreIdx16 w d) .protectedMemory s l ∧
      l.regs = fetchedFor (.movStoreIdx16 w d) ea g ∧ Undisturbed s l ∧ MemorySame s l) ∧
    (s.mem.writable ea.toNat = true → s.mem.writable (ea + 1).toNat = false →
      ∃ l, Errs (.movStoreIdx16 w d) .protectedMemory s l ∧
        l.regs = fetchedFor (.movStoreIdx16 w d) (ea + 1) g ∧ Undisturbed s l ∧
        StoresByte s l ea (lo8 (s.regs.getWord w.reg)))

/-! ### ALU instructions -/

/-- `OP x,y` with write-back, and its encoding (44_alu_instructions.md R300 to R307). -/
def Obligations.AluRegisterRegister : Prop :=
  ∀ (k : BinaryOp) (p : RegPair) (s : State), k ≠ .cmp →
    EncodedAs (.aluReg k p) (0x70 + 6 * k.num + p.num) .implied none none
      [.xdata (.byte p.left) (.byte .lhs), .xdata (.byte p.right) .alu k.alu.code,
        (Step.xdata (.byte .lhs) (.byte p.left)).fin] ∧
    (let l := s.regs.getByte p.left
     let r := s.regs.getByte p.right
     let res := binaryResult k l r s.flags.c
     ∃ t, Retires (.aluReg k p) 5 s t ∧
       t.regs = fetchedFor (.aluReg k p) s.regs.pc ({ s.regs with lhs := res, rhs := r }.setByte p.left res) ∧
       t.flags = binaryFlags k l r s.flags ∧ Undisturbed s t ∧ MemorySame s t)

/-- `CMP x,y`, and its encoding: Z says equal, C says below, V and the destination stay (44_alu_instructions.md R308). -/
def Obligations.CompareRegisters : Prop :=
  ∀ (p : RegPair) (s : State),
    EncodedAs (.aluReg .cmp p) (0x9A + p.num) .implied none none
      [.xdata (.byte p.left) (.byte .lhs), (Step.xdata (.byte p.right) .alu AluOp.cmp.code).fin] ∧
    (let l := s.regs.getByte p.left
     let r := s.regs.getByte p.right
     ∃ t, Retires (.aluReg .cmp p) 4 s t ∧
       t.regs = fetchedFor (.aluReg .cmp p) s.regs.pc { s.regs with lhs := l, rhs := r } ∧
       t.flags = { z := decide (l = r), c := decide (l.toNat < r.toNat), v := s.flags.v } ∧
       Undisturbed s t ∧ MemorySame s t)

/-- `OP r,#i8` with write-back, and its encoding: the immediate goes through the low half of TX (44_alu_instructions.md R309
to R316). -/
def Obligations.AluRegisterImmediate : Prop :=
  ∀ (k : BinaryOp) (g : GReg) (v : Byte) (s : State), k ≠ .cmp →
    EncodedAs (.aluImm k g v) (0xA0 + 4 * k.num + g.num) .immediateByte (some (.addr .tx)) none
      [.xdata (.byte g.reg) (.byte .lhs), .xdata (.addr .tx) .alu k.alu.code,
        (Step.xdata (.byte .lhs) (.byte g.reg)).fin] ∧
    (let l := s.regs.getByte g.reg
     let res := binaryResult k l v s.flags.c
     ∃ t, Retires (.aluImm k g v) 7 s t ∧
       t.regs = fetchedFor (.aluImm k g v) (s.regs.pc + 1)
         ({ s.regs with lhs := res, rhs := v, tx := word (hi8 s.regs.tx) v }.setByte g.reg res) ∧
       t.flags = binaryFlags k l v s.flags ∧ Undisturbed s t ∧ MemorySame s t)

/-- `CMP r,#i8`, and its encoding (44_alu_instructions.md R317). -/
def Obligations.CompareImmediate : Prop :=
  ∀ (g : GReg) (v : Byte) (s : State),
    EncodedAs (.aluImm .cmp g v) (0xBC + g.num) .immediateByte (some (.addr .tx)) none
      [.xdata (.byte g.reg) (.byte .lhs), (Step.xdata (.addr .tx) .alu AluOp.cmp.code).fin] ∧
    (let l := s.regs.getByte g.reg
     ∃ t, Retires (.aluImm .cmp g v) 6 s t ∧
       t.regs = fetchedFor (.aluImm .cmp g v) (s.regs.pc + 1)
         { s.regs with lhs := l, rhs := v, tx := word (hi8 s.regs.tx) v } ∧
       t.flags = { z := decide (l = v), c := decide (l.toNat < v.toNat), v := s.flags.v } ∧
       Undisturbed s t ∧ MemorySame s t)

/-- `OP r` for NOT, SHL, SHR, CLR, INC and DEC, and its encoding (44_alu_instructions.md R318 to R324). -/
def Obligations.AluUnary : Prop :=
  ∀ (u : UnaryOp) (g : GReg) (s : State),
    EncodedAs (.aluUnary u g) (0xC0 + 4 * u.num + g.num) .implied none none
      [.xdata (.byte g.reg) .alu u.alu.code, (Step.xdata (.byte .lhs) (.byte g.reg)).fin] ∧
    (let r := s.regs.getByte g.reg
     let res := unaryResult u r
     ∃ t, Retires (.aluUnary u g) 4 s t ∧
       t.regs = fetchedFor (.aluUnary u g) s.regs.pc ({ s.regs with lhs := res, rhs := r }.setByte g.reg res) ∧
       t.flags = unaryFlags u r s.flags ∧ Undisturbed s t ∧ MemorySame s t)

/-! ### Stack -/

/-- `PUSH r`, and its encoding: the byte goes below the old SP; on an error SP and MEMADDR have moved and memory has not
(45_stack.md R331). -/
def Obligations.PushByte : Prop :=
  ∀ (r : GReg) (s : State),
    let a := s.regs.sp - 1
    EncodedAs (.push8 r) (0x50 + r.num) .implied none none
      [.xaddr (.addr .sp) (.addr .memaddr) OpFlags.dec, (Step.xdata (.byte r.reg) .mem).fin] ∧
    (s.mem.writable a.toNat = true → ∃ t, Retires (.push8 r) 4 s t ∧
      t.regs = fetchedFor (.push8 r) a { s.regs with sp := a } ∧ t.flags = s.flags ∧ Undisturbed s t ∧
      StoresByte s t a (s.regs.getByte r.reg)) ∧
    (s.mem.writable a.toNat = false → ∃ l, Errs (.push8 r) .protectedMemory s l ∧
      l.regs = fetchedFor (.push8 r) a { s.regs with sp := a } ∧ Undisturbed s l ∧ MemorySame s l)

/-- `POP r`, and its encoding: the byte at SP; on an error SP has moved and the register has not (45_stack.md R332). -/
def Obligations.PopByte : Prop :=
  ∀ (r : GReg) (s : State),
    let a := s.regs.sp
    EncodedAs (.pop8 r) (0x54 + r.num) .implied none none
      [.xaddr (.addr .sp) (.addr .memaddr) OpFlags.inc, (Step.xdata .mem (.byte r.reg)).fin] ∧
    (∀ v, s.mem.readByte a.toNat = some v → ∃ t, Retires (.pop8 r) 4 s t ∧
      t.regs = fetchedFor (.pop8 r) a ({ s.regs with sp := a + 1 }.setByte r.reg v) ∧ t.flags = s.flags ∧
      Undisturbed s t ∧ MemorySame s t) ∧
    (s.mem.readByte a.toNat = none → ∃ l, Errs (.pop8 r) .protectedMemory s l ∧
      l.regs = fetchedFor (.pop8 r) a { s.regs with sp := a + 1 } ∧ Undisturbed s l ∧ MemorySame s l)

/-- `PUSH w`, and its encoding: high byte first, so the word lies low byte at the lower address; with the partial states of
its two errors (45_stack.md section 3). -/
def Obligations.PushWord : Prop :=
  ∀ (w : BaseReg) (s : State),
    let v := s.regs.getWord w.reg
    let a := s.regs.sp
    EncodedAs (.push16 w) (0x58 + w.num) .implied none none
      [.xaddr (.addr .sp) (.addr .memaddr) OpFlags.dec, .xdata (.addr w.reg) .mem OpFlags.msb,
        .xaddr (.addr .sp) (.addr .memaddr) OpFlags.dec, (Step.xdata (.addr w.reg) .mem).fin] ∧
    (s.mem.writable (a - 1).toNat = true → s.mem.writable (a - 2).toNat = true → ∃ t, Retires (.push16 w) 6 s t ∧
      t.regs = fetchedFor (.push16 w) (a - 2) { s.regs with sp := a - 2 } ∧ t.flags = s.flags ∧ Undisturbed s t ∧
      StoresTwoBytes s t (a - 1) (hi8 v) (a - 2) (lo8 v)) ∧
    (s.mem.writable (a - 1).toNat = false → ∃ l, Errs (.push16 w) .protectedMemory s l ∧
      l.regs = fetchedFor (.push16 w) (a - 1) { s.regs with sp := a - 1 } ∧ Undisturbed s l ∧ MemorySame s l) ∧
    (s.mem.writable (a - 1).toNat = true → s.mem.writable (a - 2).toNat = false →
      ∃ l, Errs (.push16 w) .protectedMemory s l ∧
        l.regs = fetchedFor (.push16 w) (a - 2) { s.regs with sp := a - 2 } ∧ Undisturbed s l ∧
        StoresByte s l (a - 1) (hi8 v))

/-- `POP w`, and its encoding, with the partial states of its two errors (45_stack.md section 3). -/
def Obligations.PopWord : Prop :=
  ∀ (w : BaseReg) (s : State),
    let a := s.regs.sp
    EncodedAs (.pop16 w) (0x5B + w.num) .implied none none
      [.xaddr (.addr .sp) (.addr .memaddr) OpFlags.inc, .xdata .mem (.addr w.reg),
        .xaddr (.addr .sp) (.addr .memaddr) OpFlags.inc, (Step.xdata .mem (.addr w.reg) OpFlags.msb).fin] ∧
    (∀ lo hi, s.mem.readByte a.toNat = some lo → s.mem.readByte (a + 1).toNat = some hi →
      ∃ t, Retires (.pop16 w) 6 s t ∧
        t.regs = fetchedFor (.pop16 w) (a + 1) ({ s.regs with sp := a + 2 }.setWord w.reg (word hi lo)) ∧
        t.flags = s.flags ∧ Undisturbed s t ∧ MemorySame s t) ∧
    (s.mem.readByte a.toNat = none → ∃ l, Errs (.pop16 w) .protectedMemory s l ∧
      l.regs = fetchedFor (.pop16 w) a { s.regs with sp := a + 1 } ∧ Undisturbed s l ∧ MemorySame s l) ∧
    (∀ lo, s.mem.readByte a.toNat = some lo → s.mem.readByte (a + 1).toNat = none →
      ∃ l, Errs (.pop16 w) .protectedMemory s l ∧
        l.regs = fetchedFor (.pop16 w) (a + 1)
          ({ s.regs with sp := a + 2 }.setWord w.reg (word (hi8 (s.regs.getWord w.reg)) lo)) ∧
        Undisturbed s l ∧ MemorySame s l)

/-- `PUSHF`, and its encoding: the flags byte V·4 + C·2 + Z, through TX (45_stack.md R336). -/
def Obligations.PushFlags : Prop :=
  ∀ s : State,
    let v := BitVec.ofNat 8 (s.flags.v.toNat * 4 + s.flags.c.toNat * 2 + s.flags.z.toNat)
    let a := s.regs.sp - 1
    EncodedAs .pushf 0x5E .implied none none
      [.xaddr .alu (.addr .tx) OpFlags.flags, .xaddr (.addr .sp) (.addr .memaddr) OpFlags.dec,
        (Step.xdata (.addr .tx) .mem).fin] ∧
    (s.mem.writable a.toNat = true → ∃ t, Retires .pushf 5 s t ∧
      t.regs = fetchedFor .pushf a { s.regs with sp := a, tx := v.setWidth 16 } ∧ t.flags = s.flags ∧ Undisturbed s t ∧
      StoresByte s t a v) ∧
    (s.mem.writable a.toNat = false → ∃ l, Errs .pushf .protectedMemory s l ∧
      l.regs = fetchedFor .pushf a { s.regs with sp := a, tx := v.setWidth 16 } ∧ Undisturbed s l ∧ MemorySame s l)

/-- `POPF`, and its encoding: Z, C and V from bits 0, 1 and 2 of the byte at SP, the other bits ignored (45_stack.md section
4). -/
def Obligations.PopFlags : Prop :=
  ∀ s : State,
    let a := s.regs.sp
    EncodedAs .popf 0x5F .implied none none
      [.xaddr (.addr .sp) (.addr .memaddr) OpFlags.inc, .xdata .mem (.addr .tx),
        (Step.xaddr (.addr .tx) .alu OpFlags.flags).fin] ∧
    (∀ b, s.mem.readByte a.toNat = some b → ∃ t, Retires .popf 5 s t ∧
      t.regs = fetchedFor .popf a { s.regs with sp := a + 1, tx := word (hi8 s.regs.tx) b } ∧
      t.flags = { z := b.getLsbD 0, c := b.getLsbD 1, v := b.getLsbD 2 } ∧ Undisturbed s t ∧ MemorySame s t) ∧
    (s.mem.readByte a.toNat = none → ∃ l, Errs .popf .protectedMemory s l ∧
      l.regs = fetchedFor .popf a { s.regs with sp := a + 1 } ∧ Undisturbed s l ∧ MemorySame s l)

/-- The stack round trips of 45_stack.md R333: a push, then anything that leaves SP and the pushed bytes, then a pop, gives the
pushed value, SP as before the push, and memory as before the pop (as before the push but for the pushed bytes if nothing
else wrote). For byte registers, for word registers and for the flags. -/
def Obligations.StackRoundTrips : Prop :=
  (∀ (x y : GReg) (s t u : State), exec (.push8 x) s = .next t → u.regs.sp = t.regs.sp →
    u.mem.readByte (s.regs.sp - 1).toNat = t.mem.readByte (s.regs.sp - 1).toNat →
    ∃ z, exec (.pop8 y) u = .next z ∧ z.regs.getByte y.reg = s.regs.getByte x.reg ∧ z.regs.sp = s.regs.sp ∧
      MemorySame u z ∧ ∀ a, a ≠ (s.regs.sp - 1).toNat → t.mem.readByte a = s.mem.readByte a) ∧
  (∀ (x y : BaseReg) (s t u : State), exec (.push16 x) s = .next t → u.regs.sp = t.regs.sp →
    u.mem.readByte (s.regs.sp - 1).toNat = t.mem.readByte (s.regs.sp - 1).toNat →
    u.mem.readByte (s.regs.sp - 2).toNat = t.mem.readByte (s.regs.sp - 2).toNat →
    ∃ z, exec (.pop16 y) u = .next z ∧ z.regs.getWord y.reg = s.regs.getWord x.reg ∧ z.regs.sp = s.regs.sp ∧
      MemorySame u z ∧ ∀ a, a ≠ (s.regs.sp - 1).toNat → a ≠ (s.regs.sp - 2).toNat →
        t.mem.readByte a = s.mem.readByte a) ∧
  (∀ s t u : State, exec .pushf s = .next t → u.regs.sp = t.regs.sp →
    u.mem.readByte (s.regs.sp - 1).toNat = t.mem.readByte (s.regs.sp - 1).toNat →
    ∃ z, exec .popf u = .next z ∧ z.flags = s.flags ∧ z.regs.sp = s.regs.sp ∧
      MemorySame u z ∧ ∀ a, a ≠ (s.regs.sp - 1).toNat → t.mem.readByte a = s.mem.readByte a)

/-! ### Control flow -/

/-- `JMP #t16`: PC is the target, nothing is tested or saved (46_control_flow.md section 1). -/
def Obligations.Jump : Prop :=
  ∀ (target : Word) (s : State),
    EncodedAs (.jmp target) 0x60 .immediateWord (some (.addr .pc)) none [] ∧
    ∃ t, Retires (.jmp target) 6 s t ∧
      t.regs = { s.regs with ir := 0x60, pc := target, memaddr := s.regs.pc + 3 } ∧
      t.flags = s.flags ∧ Undisturbed s t ∧ MemorySame s t

/-- The conditional jumps: taken iff the flag has the branch's value, at 7 cycles either way; not taken, PC is past the
instruction; TX holds the target either way (46_control_flow.md R352 to R357). -/
def Obligations.ConditionalJump : Prop :=
  ∀ (b : Branch) (target : Word) (s : State),
    EncodedAs (.jumpIf b target) (0x61 + b.num) .immediateWord (some (.addr .tx))
      (some { mask := match b with
                | .jz | .jnz => 0x01
                | .jc | .jnc => 0x02
                | .jv | .jnv => 0x04
              op := match b with
                | .jz | .jc | .jv => .and
                | .jnz | .jnc | .jnv => .nand })
      [(Step.xaddr (.addr .tx) (.addr .pc)).fin] ∧
    ∃ t, Retires (.jumpIf b target) 7 s t ∧
      t.regs = { s.regs with
        ir := (Instr.jumpIf b target).opcode
        pc := if b.flag s.flags = b.takenOn then target else s.regs.pc + 3
        tx := target
        memaddr := s.regs.pc + 3 } ∧
      t.flags = s.flags ∧ Undisturbed s t ∧ MemorySame s t

/-- `CALL #t16`: the address after the CALL is pushed high byte first and PC is the target; on an error at either pushed byte
the target is not entered, PC is past the CALL and SP is partly decremented (46_control_flow.md section 3). -/
def Obligations.Call : Prop :=
  ∀ (target : Word) (s : State),
    let after := s.regs.pc + 3
    let a := s.regs.sp
    EncodedAs (.call target) 0x67 .immediateWord (some (.addr .tx)) none
      [.xaddr (.addr .sp) (.addr .memaddr) OpFlags.dec, .xdata (.addr .pc) .mem OpFlags.msb,
        .xaddr (.addr .sp) (.addr .memaddr) OpFlags.dec, .xdata (.addr .pc) .mem,
        (Step.xaddr (.addr .tx) (.addr .pc)).fin] ∧
    (s.mem.writable (a - 1).toNat = true → s.mem.writable (a - 2).toNat = true → ∃ t, Retires (.call target) 11 s t ∧
      t.regs = { s.regs with ir := 0x67, pc := target, sp := a - 2, tx := target, memaddr := a - 2 } ∧
      t.flags = s.flags ∧ Undisturbed s t ∧ StoresTwoBytes s t (a - 1) (hi8 after) (a - 2) (lo8 after)) ∧
    (s.mem.writable (a - 1).toNat = false → ∃ l, Errs (.call target) .protectedMemory s l ∧
      l.regs = { s.regs with ir := 0x67, pc := after, sp := a - 1, tx := target, memaddr := a - 1 } ∧
      Undisturbed s l ∧ MemorySame s l) ∧
    (s.mem.writable (a - 1).toNat = true → s.mem.writable (a - 2).toNat = false →
      ∃ l, Errs (.call target) .protectedMemory s l ∧
        l.regs = { s.regs with ir := 0x67, pc := after, sp := a - 2, tx := target, memaddr := a - 2 } ∧
        Undisturbed s l ∧ StoresByte s l (a - 1) (hi8 after))

/-- `RET`: PC is the word at SP, low byte first; an error at the second byte leaves the low half of PC replaced
(46_control_flow.md section 3). -/
def Obligations.Return : Prop :=
  ∀ s : State,
    let a := s.regs.sp
    EncodedAs .ret 0x68 .implied none none
      [.xaddr (.addr .sp) (.addr .memaddr) OpFlags.inc, .xdata .mem (.addr .pc),
        .xaddr (.addr .sp) (.addr .memaddr) OpFlags.inc, (Step.xdata .mem (.addr .pc) OpFlags.msb).fin] ∧
    (∀ lo hi, s.mem.readByte a.toNat = some lo → s.mem.readByte (a + 1).toNat = some hi →
      ∃ t, Retires .ret 6 s t ∧
        t.regs = { s.regs with ir := 0x68, pc := word hi lo, sp := a + 2, memaddr := a + 1 } ∧
        t.flags = s.flags ∧ Undisturbed s t ∧ MemorySame s t) ∧
    (s.mem.readByte a.toNat = none → ∃ l, Errs .ret .protectedMemory s l ∧
      l.regs = { s.regs with ir := 0x68, pc := s.regs.pc + 1, sp := a + 1, memaddr := a } ∧
      Undisturbed s l ∧ MemorySame s l) ∧
    (∀ lo, s.mem.readByte a.toNat = some lo → s.mem.readByte (a + 1).toNat = none →
      ∃ l, Errs .ret .protectedMemory s l ∧
        l.regs = { s.regs with ir := 0x68, pc := word (hi8 (s.regs.pc + 1)) lo, sp := a + 2, memaddr := a + 1 } ∧
        Undisturbed s l ∧ MemorySame s l)

/-! ### I/O and system -/

/-- `NOP` advances PC and nothing else; `HLT` does the same, sets halt and still retires (47_io_system.md section 2). -/
def Obligations.NopAndHalt : Prop :=
  ∀ s : State,
    (EncodedAs .nop 0x00 .implied none none [] ∧
      ∃ t, Retires .nop 2 s t ∧ t.regs = fetchedFor .nop s.regs.pc s.regs ∧ t.flags = s.flags ∧ Undisturbed s t ∧
        MemorySame s t) ∧
    (EncodedAs .hlt 0xFF .implied none none [(Step.other OpFlags.halt).fin] ∧
      ∃ t, Retires .hlt 3 s t ∧ t.regs = fetchedFor .hlt s.regs.pc s.regs ∧ t.flags = s.flags ∧
        t.lines = { s.lines with halt := true } ∧ t.io = s.io ∧ t.table = s.table ∧ t.mem = s.mem)

/-- `IN r,#ch`, and its encoding: the next byte of an installed input channel in the register, consumed once; a channel that
is not an installed input raises InvalidComponentID with the register unchanged (47_io_system.md R371). -/
def Obligations.Input : Prop :=
  ∀ (r : GReg) (ch : Port) (s : State),
    EncodedAs (.input r ch) (0xE0 + 2 * r.num + ch.num) .implied none none
      [(Step.ioIn (BitVec.ofNat 4 ch.num) (.byte r.reg)).fin] ∧
    (∀ (v : Byte) (rest : List Byte), s.io.channels[ch.channel.val] = some .input →
      s.io.input[ch.channel.val] = v :: rest → ∃ t, Retires (.input r ch) 3 s t ∧
        t.regs = fetchedFor (.input r ch) s.regs.pc (s.regs.setByte r.reg v) ∧ t.flags = s.flags ∧
        t.io = { s.io with input := s.io.input.set ch.channel.val rest } ∧
        t.lines = s.lines ∧ t.table = s.table ∧ t.mem = s.mem) ∧
    (s.io.channels[ch.channel.val] ≠ some .input → ∃ l, Errs (.input r ch) .invalidComponentID s l ∧
      l.regs = fetchedFor (.input r ch) s.regs.pc s.regs ∧ Undisturbed s l ∧ MemorySame s l)

/-- An IN whose channel has no byte left is refused and no byte is invented. The refusal is the model's choice (log 10), one of
the two that the spec's table of open points allows (93_implementation_defined.md section 2). -/
def Obligations.InputExhausted : Prop :=
  ∀ (r : GReg) (ch : Port) (s : State), s.io.channels[ch.channel.val] = some .input →
    s.io.input[ch.channel.val] = [] → exec (.input r ch) s = .refused (.inputExhausted ch.channel)

/-- `OUT #ch,r`, and its encoding: the sink of an installed output channel gets the register's byte, which is also left on the
data bus; a channel that is not an installed output raises InvalidComponentID and nothing is delivered (47_io_system.md
R372). -/
def Obligations.Output : Prop :=
  ∀ (ch : Port) (r : GReg) (s : State),
    EncodedAs (.output ch r) (0xE8 + 2 * r.num + ch.num) .implied none none
      [(Step.ioOut (.byte r.reg) (BitVec.ofNat 4 ch.num)).fin] ∧
    (s.io.channels[ch.channel.val] = some .output → ∃ t, Retires (.output ch r) 3 s t ∧
      t.regs = fetchedFor (.output ch r) s.regs.pc s.regs ∧ t.flags = s.flags ∧
      t.bus.data = s.regs.getByte r.reg ∧
      t.io = { s.io with
        output := s.io.output.set ch.channel.val (s.io.output[ch.channel.val] ++ [s.regs.getByte r.reg]) } ∧
      t.lines = s.lines ∧ t.table = s.table ∧ t.mem = s.mem) ∧
    (s.io.channels[ch.channel.val] ≠ some .output → ∃ l, Errs (.output ch r) .invalidComponentID s l ∧
      l.regs = fetchedFor (.output ch r) s.regs.pc s.regs ∧ Undisturbed s l ∧ MemorySame s l)
end

