-- ==== Sys2Proof/Laws/Bits.lean ====
section
/-! SUPPORT. Bytes, words and 9-bit ALU results as numbers. -/

namespace Sys2Proof

theorem word_toNat (hi lo : Byte) : (word hi lo).toNat = hi.toNat * 256 + lo.toNat := by
  simp only [word, BitVec.toNat_append]
  rw [← Nat.shiftLeft_add_eq_or_of_lt lo.isLt, Nat.shiftLeft_eq]

theorem lo8_toNat (w : Word) : (lo8 w).toNat = w.toNat % 256 := by
  simp [lo8, BitVec.toNat_setWidth]

theorem hi8_toNat (w : Word) : (hi8 w).toNat = w.toNat / 256 := by
  have h : w.toNat < 65536 := w.isLt
  simp only [hi8, BitVec.toNat_setWidth, BitVec.toNat_ushiftRight, Nat.shiftRight_eq_div_pow]
  omega

@[simp] theorem word_hi_lo (w : Word) : word (hi8 w) (lo8 w) = w := by
  apply BitVec.eq_of_toNat_eq
  rw [word_toNat, lo8_toNat, hi8_toNat]
  omega

@[simp] theorem hi8_word (hi lo : Byte) : hi8 (word hi lo) = hi := by
  apply BitVec.eq_of_toNat_eq
  have h : lo.toNat < 256 := lo.isLt
  rw [hi8_toNat, word_toNat]
  omega

@[simp] theorem lo8_word (hi lo : Byte) : lo8 (word hi lo) = lo := by
  apply BitVec.eq_of_toNat_eq
  have h : lo.toNat < 256 := lo.isLt
  rw [lo8_toNat, word_toNat]
  omega

namespace Machine

@[simp] theorem aluResult_raw9 (b : Byte) : aluResult (raw9 b) = b := by
  apply BitVec.eq_of_toNat_eq
  have h : b.toNat < 256 := b.isLt
  simp only [aluResult, raw9, BitVec.toNat_setWidth]
  omega

theorem raw9_toNat (b : Byte) : (raw9 b).toNat = b.toNat := by
  have h : b.toNat < 256 := b.isLt
  simp only [raw9, BitVec.toNat_setWidth]
  omega

/-- The ninth bit of a raw result says whether its value is at least 256. -/
theorem raw_bit8 (raw : BitVec 9) : raw.getLsbD 8 = decide (256 ≤ raw.toNat) := by
  have h : raw.toNat < 512 := raw.isLt
  rw [BitVec.getLsbD, Nat.testBit_eq_decide_div_mod_eq]
  congr 1
  simp only [eq_iff_iff]
  omega

/-- The flags byte holds the flags at bits 0, 1 and 2 (10_state.md R29). -/
@[simp] theorem flagsOfByte_flagsByte (f : Flags) : flagsOfByte (flagsByte f) = f := by
  rcases f with ⟨z, c, v⟩
  cases z <;> cases c <;> cases v <;> rfl

end Machine

end Sys2Proof
end

