-- ==== Sys2Proof/Laws/Memory.lean ====
section
/-! SUPPORT. The laws of memory: what a read gives after a write, what a write can do, and that every memory operation keeps
the canonical form. -/

namespace Sys2Proof.Machine

open Sys2Proof

/-! ### Cells -/

theorem lookupCell_filter_other (cells : List Host.Cell) {a x : Nat} (h : x ≠ a) :
    lookupCell (cells.filter fun c => c.1 != a) x = lookupCell cells x := by
  induction cells with
  | nil => rfl
  | cons c rest ih =>
    rcases c with ⟨k, w⟩
    by_cases hk : k = a
    · subst hk
      simp [lookupCell, ih, Ne.symm h]
    · simp [lookupCell, ih, hk]

theorem lookupCell_filter_same (cells : List Host.Cell) (a : Nat) :
    lookupCell (cells.filter fun c => c.1 != a) a = Config.unlistedByte := by
  induction cells with
  | nil => rfl
  | cons c rest ih =>
    rcases c with ⟨k, w⟩
    by_cases hk : k = a
    · subst hk
      simpa using ih
    · simp [lookupCell, hk, ih]

theorem lookupCell_insertCell_other (cells : List Host.Cell) {a x : Nat} (v : Byte) (h : x ≠ a) :
    lookupCell (insertCell cells a v) x = lookupCell cells x := by
  induction cells with
  | nil => simp [insertCell, lookupCell, Ne.symm h]
  | cons c rest ih =>
    rcases c with ⟨k, w⟩
    simp only [insertCell]
    split
    · simp [lookupCell, Ne.symm h]
    · simp [lookupCell, ih]

theorem lookupCell_insertCell_same (cells : List Host.Cell) (a : Nat) (v : Byte) (h : ∀ c ∈ cells, c.1 ≠ a) :
    lookupCell (insertCell cells a v) a = v := by
  induction cells with
  | nil => simp [insertCell, lookupCell]
  | cons c rest ih =>
    rcases c with ⟨k, w⟩
    have hk : k ≠ a := h (k, w) (by simp)
    simp only [insertCell]
    split
    · simp [lookupCell]
    · simpa [lookupCell, hk] using ih fun c hc => h c (by simp [hc])

/-- What the cells hold after one cell is written: the new byte there, the old bytes elsewhere. -/
theorem lookupCell_storeCell (cells : List Host.Cell) (a : Nat) (v : Byte) (x : Nat) :
    lookupCell (storeCell cells a v) x = if x = a then v else lookupCell cells x := by
  simp only [storeCell]
  split
  · rename_i hv
    split
    · rename_i hx
      rw [hx, lookupCell_filter_same, hv]
    · rename_i hx
      exact lookupCell_filter_other cells hx
  · split
    · rename_i hx
      rw [hx]
      exact lookupCell_insertCell_same _ a v fun c hc => by
        simpa using (List.mem_filter.mp hc).2
    · rename_i hx
      rw [lookupCell_insertCell_other _ v hx, lookupCell_filter_other cells hx]

theorem mem_insertCell {cells : List Host.Cell} {a : Nat} {v : Byte} {c : Host.Cell} :
    c ∈ insertCell cells a v ↔ c = (a, v) ∨ c ∈ cells := by
  induction cells with
  | nil => simp [insertCell]
  | cons d rest ih =>
    simp only [insertCell]
    split
    · simp
    · simp only [List.mem_cons, ih]
      tauto

/-- A cell of a written list is the new one, which is not the unlisted byte, or an old one of another address. -/
theorem mem_storeCell {cells : List Host.Cell} {a : Nat} {v : Byte} {c : Host.Cell} (h : c ∈ storeCell cells a v) :
    (c = (a, v) ∧ v ≠ Config.unlistedByte) ∨ (c ∈ cells ∧ c.1 ≠ a) := by
  simp only [storeCell] at h
  split at h
  · right
    simpa using h
  · rename_i hv
    rcases mem_insertCell.mp h with h | h
    · exact .inl ⟨h, hv⟩
    · right
      simpa using h

theorem insertCell_rising {cells : List Host.Cell} {a : Nat} {v : Byte}
    (hs : cells.Pairwise fun x y => x.1 < y.1) (ha : ∀ c ∈ cells, c.1 ≠ a) :
    (insertCell cells a v).Pairwise fun x y => x.1 < y.1 := by
  induction cells with
  | nil => simp [insertCell]
  | cons d rest ih =>
    have hd := List.pairwise_cons.mp hs
    have hda := ha d (by simp)
    simp only [insertCell]
    split
    · rename_i hlt
      refine List.pairwise_cons.mpr ⟨fun c hc => ?_, hs⟩
      rcases List.mem_cons.mp hc with rfl | hc
      · exact hlt
      · exact Nat.lt_trans hlt (hd.1 c hc)
    · rename_i hge
      refine List.pairwise_cons.mpr ⟨fun c hc => ?_, ih hd.2 fun c hc => ha c (by simp [hc])⟩
      rcases mem_insertCell.mp hc with rfl | hc
      · simp only at hge hda ⊢
        omega
      · exact hd.1 c hc

/-- A write keeps the addresses strictly rising. -/
theorem storeCell_rising {cells : List Host.Cell} {a : Nat} {v : Byte}
    (hs : cells.Pairwise fun x y => x.1 < y.1) : (storeCell cells a v).Pairwise fun x y => x.1 < y.1 := by
  simp only [storeCell]
  split
  · exact hs.filter _
  · exact insertCell_rising (hs.filter _) fun c hc => by simpa using (List.mem_filter.mp hc).2

/-! ### Reading and writing -/

theorem bankOf_congr {m m' : Memory} (h : m'.banks = m.banks) (a : Nat) : m'.bankOf a = m.bankOf a := by
  simp [Memory.bankOf, h]

/-- A write succeeds exactly on a mapped address of a writable bank (20_memory.md R69). -/
theorem writeByte_isSome (m : Memory) (a : Nat) (v : Byte) : (m.writeByte a v).isSome = m.writable a := by
  simp only [Memory.writeByte, Memory.writable]
  cases m.bankOf a with
  | none => rfl
  | some b =>
    cases hb : b.writable <;> simp [hb]

theorem writeByte_none {m : Memory} {a : Nat} (v : Byte) (h : m.writable a = false) : m.writeByte a v = none := by
  rw [← Option.not_isSome_iff_eq_none, writeByte_isSome, h]
  simp

theorem writeByte_some {m : Memory} {a : Nat} (v : Byte) (h : m.writable a = true) :
    m.writeByte a v = some { m with cells := storeCell m.cells a v } := by
  simp only [Memory.writable] at h
  simp only [Memory.writeByte]
  cases hb : m.bankOf a with
  | none => simp [hb] at h
  | some b =>
    simp only [hb, Option.any_some] at h
    simp [h]

/-- Everything a write can do: the banks stay, and every address reads as before but the written one. -/
theorem writeByte_effect {m m' : Memory} {a : Nat} {v : Byte} (h : m.writeByte a v = some m') :
    m.writable a = true ∧ m'.banks = m.banks ∧
      ∀ x, m'.readByte x = if x = a then some v else m.readByte x := by
  have hw : m.writable a = true := by rw [← writeByte_isSome m a v, h]; rfl
  rw [writeByte_some v hw] at h
  obtain rfl := (Option.some.inj h).symm
  refine ⟨hw, rfl, fun x => ?_⟩
  simp only [Memory.readByte, Memory.bankOf, lookupCell_storeCell]
  by_cases hx : x = a
  · subst hx
    simp only [Memory.writable, Memory.bankOf] at hw
    cases hb : m.banks.find? (·.covers x) with
    | none => simp [hb] at hw
    | some b => simp
  · simp [hx]

/-- An address is mapped exactly where a read succeeds (20_memory.md R68). -/
theorem readByte_isSome (m : Memory) (a : Nat) : (m.readByte a).isSome = (m.bankOf a).isSome := by
  simp only [Memory.readByte]
  cases m.bankOf a <;> rfl

/-- A writable address is mapped. -/
theorem readByte_of_writable {m : Memory} {a : Nat} (h : m.writable a = true) : ∃ b, m.readByte a = some b := by
  simp only [Memory.writable] at h
  simp only [Memory.readByte]
  cases hb : m.bankOf a with
  | none => simp [hb] at h
  | some b => exact ⟨_, rfl⟩

theorem writable_congr {m m' : Memory} (h : m'.banks = m.banks) (a : Nat) : m'.writable a = m.writable a := by
  simp [Memory.writable, bankOf_congr h]

/-! ### The canonical form -/

/-- Only the banks decide where memory can be written. -/
@[simp] theorem writable_withCells (m : Memory) (cells : List Host.Cell) (a : Nat) :
    Memory.writable { banks := m.banks, cells := cells } a = m.writable a := rfl

/-- What every address reads after one byte is stored at a writable address. -/
theorem readByte_stored (m : Memory) {a : Nat} (v : Byte) (h : m.writable a = true) (x : Nat) :
    Memory.readByte { banks := m.banks, cells := storeCell m.cells a v } x =
      if x = a then some v else m.readByte x :=
  (writeByte_effect (writeByte_some v h)).2.2 x

/-- What every address reads after two bytes are stored at two writable addresses. -/
theorem readByte_storedTwice (m : Memory) {a a' : Nat} (v v' : Byte) (h : m.writable a = true)
    (h' : m.writable a' = true) (ne : a ≠ a') (x : Nat) :
    Memory.readByte { banks := m.banks, cells := storeCell (storeCell m.cells a v) a' v' } x =
      if x = a then some v else if x = a' then some v' else m.readByte x := by
  have k := readByte_stored { m with cells := storeCell m.cells a v } v' h' x
  simp only at k
  rw [k, readByte_stored m v h x]
  split <;> split <;> simp_all

theorem storeCell_wf {m : Memory} {a : Nat} (v : Byte) (hm : m.wf) (ha : (m.bankOf a).isSome = true) :
    ({ m with cells := storeCell m.cells a v } : Memory).wf := by
  refine ⟨hm.1, storeCell_rising hm.2.1, fun c hc => ?_⟩
  rcases mem_storeCell hc with ⟨rfl, hv⟩ | ⟨hc, _⟩
  · exact ⟨hv, ha⟩
  · exact hm.2.2 c hc

/-- A bus or host write keeps the canonical form. -/
theorem writeByte_wf {m m' : Memory} {a : Nat} {v : Byte} (h : m.writeByte a v = some m') (hm : m.wf) : m'.wf := by
  have hw : m.writable a = true := by rw [← writeByte_isSome m a v, h]; rfl
  rw [writeByte_some v hw] at h
  obtain rfl := (Option.some.inj h).symm
  refine storeCell_wf v hm ?_
  simp only [Memory.writable] at hw
  cases hb : m.bankOf a with
  | none => simp [hb] at hw
  | some b => rfl

theorem storeBytes_wf {m : Memory} {a : Nat} (bytes : List Byte) (hm : m.wf)
    (ha : ∀ i < bytes.length, (m.bankOf (a + i)).isSome = true) :
    ({ m with cells := storeBytes m.cells a bytes } : Memory).wf := by
  induction bytes generalizing m a with
  | nil => exact hm
  | cons v rest ih =>
    have h0 : (m.bankOf a).isSome = true := ha 0 (by simp)
    have h1 := storeCell_wf v hm h0
    have := ih (a := a + 1) h1 fun i hi => by
      have := ha (i + 1) (by simpa using hi)
      rwa [show a + (i + 1) = a + 1 + i by omega] at this
    exact this

theorem bankOf_isSome {m : Memory} {a : Nat} : (m.bankOf a).isSome = true ↔ ∃ b ∈ m.banks, b.covers a = true := by
  simp [Memory.bankOf, List.find?_isSome]

theorem mem_insertBank {banks : List Bank} {n b : Bank} : b ∈ insertBank banks n ↔ b = n ∨ b ∈ banks := by
  induction banks with
  | nil => simp [insertBank]
  | cons d rest ih =>
    simp only [insertBank]
    split
    · simp
    · simp only [List.mem_cons, ih]
      tauto

theorem insertBank_wf {banks : List Bank} {n : Bank} (hb : banksWf banks) (hn : 1 ≤ n.size)
    (hfit : n.start + n.size ≤ Config.addressSpace)
    (hfree : ∀ b ∈ banks, b.overlaps n.start n.size = false) : banksWf (insertBank banks n) := by
  refine ⟨fun b hbm => ?_, ?_⟩
  · rcases mem_insertBank.mp hbm with rfl | h
    · exact ⟨hn, hfit⟩
    · exact hb.1 b h
  · have hdis : ∀ b ∈ banks, n.start + n.size ≤ b.start ∨ b.start + b.size ≤ n.start := fun b hbm => by
      have := hfree b hbm
      simp only [Bank.overlaps, Bool.and_eq_false_iff, decide_eq_false_iff_not] at this
      omega
    have hsize : ∀ b ∈ banks, 1 ≤ b.size := fun b hbm => (hb.1 b hbm).1
    have hp := hb.2
    clear hfree hb
    induction banks with
    | nil => simp [insertBank]
    | cons d rest ih =>
      have hd := List.pairwise_cons.mp hp
      simp only [insertBank]
      split
      · rename_i hlt
        have hnd : n.start + n.size ≤ d.start := by
          have h1 := hdis d (by simp)
          have h2 := hsize d (by simp)
          omega
        refine List.pairwise_cons.mpr ⟨fun c hc => ?_, hp⟩
        rcases List.mem_cons.mp hc with rfl | hc
        · exact hnd
        · have := hd.1 c hc
          have := hsize d (by simp)
          omega
      · rename_i hge
        refine List.pairwise_cons.mpr
          ⟨fun c hc => ?_, ih (fun b hbm => hdis b (by simp [hbm])) (fun b hbm => hsize b (by simp [hbm])) hd.2⟩
        rcases mem_insertBank.mp hc with rfl | hc
        · have h1 := hdis d (by simp)
          omega
        · exact hd.1 c hc

/-- `add` keeps the canonical form (20_memory.md R63). -/
theorem add_wf {m m' : Memory} {start size : Nat} {w : Bool} {image : Option (List Byte)}
    (h : m.add start size w image = some m') (hm : m.wf) : m'.wf := by
  simp only [Memory.add] at h
  split at h
  · exact absurd h (by simp)
  · rename_i hok
    simp only [not_or, not_not, not_lt] at hok
    obtain ⟨hsize, hfit, hlen⟩ := hok
    split at h
    · rename_i hin
      obtain rfl := (Option.some.inj h).symm
      obtain ⟨b, hb, hc⟩ := List.any_eq_true.mp hin
      simp only [Bank.contains, Bool.and_eq_true, decide_eq_true_eq] at hc
      refine storeBytes_wf _ hm fun i hi => bankOf_isSome.mpr ⟨b, hb, ?_⟩
      simp only [Bank.covers, Bool.and_eq_true, decide_eq_true_eq]
      omega
    · split at h
      · exact absurd h (by simp)
      · rename_i hno
        obtain rfl := (Option.some.inj h).symm
        have hbw : banksWf (insertBank m.banks { start := start, size := size, writable := w }) :=
          insertBank_wf hm.1 (by simp only; omega) hfit fun b hb => by
            simpa using fun hov => hno (List.any_eq_true.mpr ⟨b, hb, hov⟩)
        have hm1 : (Memory.mk (insertBank m.banks { start := start, size := size, writable := w }) m.cells).wf := by
          refine ⟨hbw, hm.2.1, fun c hc => ⟨(hm.2.2 c hc).1, ?_⟩⟩
          obtain ⟨b, hb, hcov⟩ := bankOf_isSome.mp (hm.2.2 c hc).2
          exact bankOf_isSome.mpr ⟨b, mem_insertBank.mpr (.inr hb), hcov⟩
        refine storeBytes_wf _ hm1 fun i hi => bankOf_isSome.mpr
          ⟨{ start := start, size := size, writable := w }, mem_insertBank.mpr (.inl rfl), ?_⟩
        simp only [Bank.covers, Bool.and_eq_true, decide_eq_true_eq]
        omega

/-- `remove` keeps the canonical form (20_memory.md R64). -/
theorem remove_wf {m : Memory} (start : Nat) (hm : m.wf) : (m.remove start).wf := by
  simp only [Memory.remove]
  cases hk : m.banks.find? (fun b => b.start == start) with
  | none => exact hm
  | some k =>
    have hkm := List.mem_of_find?_eq_some hk
    have hks : k.start = start := by simpa using List.find?_some hk
    refine ⟨⟨fun b hb => hm.1.1 b (List.mem_of_mem_filter hb), hm.1.2.filter _⟩, hm.2.1.filter _, fun c hc => ?_⟩
    have hc' := List.mem_filter.mp hc
    refine ⟨(hm.2.2 c hc'.1).1, ?_⟩
    obtain ⟨b, hb, hcov⟩ := bankOf_isSome.mp (hm.2.2 c hc'.1).2
    refine bankOf_isSome.mpr ⟨b, List.mem_filter.mpr ⟨hb, ?_⟩, hcov⟩
    by_contra hs
    have hs' : b.start = k.start := by simpa [hks] using hs
    have hbk : b = k := by
      rcases List.pairwise_iff_getElem.mp hm.1.2 with hp
      obtain ⟨i, hi, rfl⟩ := List.getElem_of_mem hb
      obtain ⟨j, hj, rfl⟩ := List.getElem_of_mem hkm
      have h1 := (hm.1.1 _ (List.getElem_mem hi)).1
      have h2 := (hm.1.1 _ (List.getElem_mem hj)).1
      rcases Nat.lt_trichotomy i j with h | h | h
      · have := hp i j hi hj h
        omega
      · simp [h]
      · have := hp j i hj hi h
        omega
    subst hbk
    simp [hcov] at hc'

/-- Memory at power-on is in canonical form. -/
theorem powerOn_wf : Memory.powerOn.wf := by decide

theorem reset_mem_wf : State.reset.mem.wf := by decide

/-- Zeros stored into no cells list nothing. -/
theorem storeBytes_zeros (n : Nat) (a : Nat) : storeBytes [] a (List.replicate n Config.unlistedByte) = [] := by
  induction n generalizing a with
  | zero => rfl
  | succ n ih => simp [List.replicate_succ, storeBytes, storeCell, ih]

/-- Adding a bank without an image to a machine without banks gives that bank, all zeros (20_memory.md R63, R67). -/
theorem add_to_powerOn {start size : Nat} (w : Bool) (h : 1 ≤ size) (hs : start + size ≤ Config.addressSpace) :
    Memory.powerOn.add start size w none = some { banks := [⟨start, size, w⟩], cells := [] } := by
  simp [Memory.add, Memory.powerOn, insertBank, storeBytes_zeros]
  omega

/-- The whole-space memory is what `add` of that bank gives a machine without banks. -/
theorem wholeSpace_eq_add : Memory.powerOn.add 0 Config.addressSpace true none = some Memory.wholeSpace :=
  add_to_powerOn true (by decide) (by decide)

theorem wholeSpace_wf : Memory.wholeSpace.wf := by decide

/-- At most one bank covers an address (20_memory.md R62). -/
theorem bank_unique {m : Memory} (hm : m.wf) {b k : Bank} (hb : b ∈ m.banks) (hk : k ∈ m.banks) {a : Nat}
    (h1 : b.covers a = true) (h2 : k.covers a = true) : b = k := by
  simp only [Bank.covers, Bool.and_eq_true, decide_eq_true_eq] at h1 h2
  have hp := List.pairwise_iff_getElem.mp hm.1.2
  obtain ⟨i, hi, rfl⟩ := List.getElem_of_mem hb
  obtain ⟨j, hj, rfl⟩ := List.getElem_of_mem hk
  rcases Nat.lt_trichotomy i j with h | h | h
  · have := hp i j hi hj h
    omega
  · simp [h]
  · have := hp j i hj hi h
    omega

end Sys2Proof.Machine
end

