-- ==== Sys2Proof/Laws/State.lean ====
section
/-! SUPPORT. The small lemmas of the state: every field after every update, and reading a register after writing one. -/

namespace Sys2Proof.Machine

open Sys2Proof

/-! ### One lemma per field per update -/

@[simp] theorem State.notify_regs (s : State) (e : Event) : (s.notify e).regs = s.regs := rfl
@[simp] theorem State.notify_flags (s : State) (e : Event) : (s.notify e).flags = s.flags := rfl
@[simp] theorem State.notify_bus (s : State) (e : Event) : (s.notify e).bus = s.bus := rfl
@[simp] theorem State.notify_lines (s : State) (e : Event) : (s.notify e).lines = s.lines := rfl
@[simp] theorem State.notify_mem (s : State) (e : Event) : (s.notify e).mem = s.mem := rfl
@[simp] theorem State.notify_io (s : State) (e : Event) : (s.notify e).io = s.io := rfl
@[simp] theorem State.notify_table (s : State) (e : Event) : (s.notify e).table = s.table := rfl
@[simp] theorem State.notify_control (s : State) (e : Event) : (s.notify e).control = s.control := rfl
@[simp] theorem State.notify_count (s : State) (e : Event) : (s.notify e).count = s.count := rfl
@[simp] theorem State.notify_events (s : State) (e : Event) : (s.notify e).events = e :: s.events := rfl

@[simp] theorem State.driveData_regs (s : State) (v : Byte) : (s.driveData v).regs = s.regs := rfl
@[simp] theorem State.driveData_flags (s : State) (v : Byte) : (s.driveData v).flags = s.flags := rfl
@[simp] theorem State.driveData_bus (s : State) (v : Byte) : (s.driveData v).bus = { s.bus with data := v } := rfl
@[simp] theorem State.driveData_lines (s : State) (v : Byte) : (s.driveData v).lines = s.lines := rfl
@[simp] theorem State.driveData_mem (s : State) (v : Byte) : (s.driveData v).mem = s.mem := rfl
@[simp] theorem State.driveData_io (s : State) (v : Byte) : (s.driveData v).io = s.io := rfl
@[simp] theorem State.driveData_table (s : State) (v : Byte) : (s.driveData v).table = s.table := rfl
@[simp] theorem State.driveData_control (s : State) (v : Byte) : (s.driveData v).control = s.control := rfl
@[simp] theorem State.driveData_count (s : State) (v : Byte) : (s.driveData v).count = s.count := rfl
@[simp] theorem State.driveData_events (s : State) (v : Byte) : (s.driveData v).events = s.events := rfl

@[simp] theorem State.driveWord_regs (s : State) (w : Word) : (s.driveWord w).regs = s.regs := rfl
@[simp] theorem State.driveWord_flags (s : State) (w : Word) : (s.driveWord w).flags = s.flags := rfl
@[simp] theorem State.driveWord_bus (s : State) (w : Word) : (s.driveWord w).bus = { s.bus with data := lo8 w, addr := hi8 w } := rfl
@[simp] theorem State.driveWord_lines (s : State) (w : Word) : (s.driveWord w).lines = s.lines := rfl
@[simp] theorem State.driveWord_mem (s : State) (w : Word) : (s.driveWord w).mem = s.mem := rfl
@[simp] theorem State.driveWord_io (s : State) (w : Word) : (s.driveWord w).io = s.io := rfl
@[simp] theorem State.driveWord_table (s : State) (w : Word) : (s.driveWord w).table = s.table := rfl
@[simp] theorem State.driveWord_control (s : State) (w : Word) : (s.driveWord w).control = s.control := rfl
@[simp] theorem State.driveWord_count (s : State) (w : Word) : (s.driveWord w).count = s.count := rfl
@[simp] theorem State.driveWord_events (s : State) (w : Word) : (s.driveWord w).events = s.events := rfl

@[simp] theorem State.setWord_regs (s : State) (r : AddrReg) (w : Word) : (s.setWord r w).regs = s.regs.setWord r w := rfl
@[simp] theorem State.setWord_flags (s : State) (r : AddrReg) (w : Word) : (s.setWord r w).flags = s.flags := rfl
@[simp] theorem State.setWord_bus (s : State) (r : AddrReg) (w : Word) : (s.setWord r w).bus = s.bus := rfl
@[simp] theorem State.setWord_lines (s : State) (r : AddrReg) (w : Word) : (s.setWord r w).lines = s.lines := rfl
@[simp] theorem State.setWord_mem (s : State) (r : AddrReg) (w : Word) : (s.setWord r w).mem = s.mem := rfl
@[simp] theorem State.setWord_io (s : State) (r : AddrReg) (w : Word) : (s.setWord r w).io = s.io := rfl
@[simp] theorem State.setWord_table (s : State) (r : AddrReg) (w : Word) : (s.setWord r w).table = s.table := rfl
@[simp] theorem State.setWord_control (s : State) (r : AddrReg) (w : Word) : (s.setWord r w).control = s.control := rfl
@[simp] theorem State.setWord_count (s : State) (r : AddrReg) (w : Word) : (s.setWord r w).count = s.count := rfl
@[simp] theorem State.setWord_events (s : State) (r : AddrReg) (w : Word) : (s.setWord r w).events = s.events := rfl

@[simp] theorem State.latchByte_regs (s : State) (r : ByteReg) (v : Byte) : (s.latchByte r v).regs = s.regs.setByte r v := rfl
@[simp] theorem State.latchByte_flags (s : State) (r : ByteReg) (v : Byte) : (s.latchByte r v).flags = s.flags := rfl
@[simp] theorem State.latchByte_bus (s : State) (r : ByteReg) (v : Byte) : (s.latchByte r v).bus = s.bus := rfl
@[simp] theorem State.latchByte_lines (s : State) (r : ByteReg) (v : Byte) : (s.latchByte r v).lines = s.lines := rfl
@[simp] theorem State.latchByte_mem (s : State) (r : ByteReg) (v : Byte) : (s.latchByte r v).mem = s.mem := rfl
@[simp] theorem State.latchByte_io (s : State) (r : ByteReg) (v : Byte) : (s.latchByte r v).io = s.io := rfl
@[simp] theorem State.latchByte_table (s : State) (r : ByteReg) (v : Byte) : (s.latchByte r v).table = s.table := rfl
@[simp] theorem State.latchByte_control (s : State) (r : ByteReg) (v : Byte) : (s.latchByte r v).control = s.control := rfl
@[simp] theorem State.latchByte_count (s : State) (r : ByteReg) (v : Byte) : (s.latchByte r v).count = s.count := rfl
@[simp] theorem State.latchByte_events (s : State) (r : ByteReg) (v : Byte) : (s.latchByte r v).events = .byteChanged r v :: s.events := rfl

@[simp] theorem State.latchWord_regs (s : State) (r : AddrReg) (w : Word) : (s.latchWord r w).regs = s.regs.setWord r w := rfl
@[simp] theorem State.latchWord_flags (s : State) (r : AddrReg) (w : Word) : (s.latchWord r w).flags = s.flags := rfl
@[simp] theorem State.latchWord_bus (s : State) (r : AddrReg) (w : Word) : (s.latchWord r w).bus = s.bus := rfl
@[simp] theorem State.latchWord_lines (s : State) (r : AddrReg) (w : Word) : (s.latchWord r w).lines = s.lines := rfl
@[simp] theorem State.latchWord_mem (s : State) (r : AddrReg) (w : Word) : (s.latchWord r w).mem = s.mem := rfl
@[simp] theorem State.latchWord_io (s : State) (r : AddrReg) (w : Word) : (s.latchWord r w).io = s.io := rfl
@[simp] theorem State.latchWord_table (s : State) (r : AddrReg) (w : Word) : (s.latchWord r w).table = s.table := rfl
@[simp] theorem State.latchWord_control (s : State) (r : AddrReg) (w : Word) : (s.latchWord r w).control = s.control := rfl
@[simp] theorem State.latchWord_count (s : State) (r : AddrReg) (w : Word) : (s.latchWord r w).count = s.count := rfl
@[simp] theorem State.latchWord_events (s : State) (r : AddrReg) (w : Word) : (s.latchWord r w).events = .wordChanged r w :: s.events := rfl

@[simp] theorem programBus_regs (st : Step) (s : State) : (programBus st s).regs = s.regs := rfl
@[simp] theorem programBus_flags (st : Step) (s : State) : (programBus st s).flags = s.flags := rfl
@[simp] theorem programBus_bus (st : Step) (s : State) : (programBus st s).bus = { s.bus with kind := st.kind, get := st.get, put := st.put, opflags := st.opflags, done := st.done } := rfl
@[simp] theorem programBus_lines (st : Step) (s : State) : (programBus st s).lines = s.lines := rfl
@[simp] theorem programBus_mem (st : Step) (s : State) : (programBus st s).mem = s.mem := rfl
@[simp] theorem programBus_io (st : Step) (s : State) : (programBus st s).io = s.io := rfl
@[simp] theorem programBus_table (st : Step) (s : State) : (programBus st s).table = s.table := rfl
@[simp] theorem programBus_control (st : Step) (s : State) : (programBus st s).control = s.control := rfl
@[simp] theorem programBus_count (st : Step) (s : State) : (programBus st s).count = s.count := rfl
@[simp] theorem programBus_events (st : Step) (s : State) : (programBus st s).events = s.events := rfl

@[simp] theorem State.betweenInstructions_regs (s : State) : (s.betweenInstructions).regs = s.regs := rfl
@[simp] theorem State.betweenInstructions_flags (s : State) : (s.betweenInstructions).flags = s.flags := rfl
@[simp] theorem State.betweenInstructions_bus (s : State) : (s.betweenInstructions).bus = s.bus := rfl
@[simp] theorem State.betweenInstructions_lines (s : State) : (s.betweenInstructions).lines = s.lines := rfl
@[simp] theorem State.betweenInstructions_mem (s : State) : (s.betweenInstructions).mem = s.mem := rfl
@[simp] theorem State.betweenInstructions_io (s : State) : (s.betweenInstructions).io = s.io := rfl
@[simp] theorem State.betweenInstructions_table (s : State) : (s.betweenInstructions).table = s.table := rfl
@[simp] theorem State.betweenInstructions_control (s : State) : (s.betweenInstructions).control = .fetchOpcode1 := rfl
@[simp] theorem State.betweenInstructions_count (s : State) : (s.betweenInstructions).count = s.count := rfl
@[simp] theorem State.betweenInstructions_events (s : State) : (s.betweenInstructions).events = s.events := rfl

@[simp] theorem retire_regs (e : Entry) (s : State) : (retire e s).regs = s.regs := rfl
@[simp] theorem retire_flags (e : Entry) (s : State) : (retire e s).flags = s.flags := rfl
@[simp] theorem retire_bus (e : Entry) (s : State) : (retire e s).bus = s.bus := rfl
@[simp] theorem retire_lines (e : Entry) (s : State) : (retire e s).lines = s.lines := rfl
@[simp] theorem retire_mem (e : Entry) (s : State) : (retire e s).mem = s.mem := rfl
@[simp] theorem retire_io (e : Entry) (s : State) : (retire e s).io = s.io := rfl
@[simp] theorem retire_table (e : Entry) (s : State) : (retire e s).table = s.table := rfl
@[simp] theorem retire_control (e : Entry) (s : State) : (retire e s).control = .fetchOpcode1 := rfl
@[simp] theorem retire_count (e : Entry) (s : State) : (retire e s).count = s.count + cost e := rfl
@[simp] theorem retire_events (e : Entry) (s : State) : (retire e s).events = .retired e.mnemonic :: s.events := rfl

/-! ### Registers -/

@[simp] theorem Regs.getByte_setByte_same (g : Regs) (r : ByteReg) (v : Byte) : (g.setByte r v).getByte r = v := by
  cases r <;> rfl

theorem Regs.getByte_setByte_other (g : Regs) {r r' : ByteReg} (v : Byte) (h : r' ≠ r) :
    (g.setByte r v).getByte r' = g.getByte r' := by
  cases r <;> cases r' <;> first | rfl | exact absurd rfl h

@[simp] theorem Regs.getWord_setWord_same (g : Regs) (r : AddrReg) (w : Word) : (g.setWord r w).getWord r = w := by
  cases r <;> rfl

theorem Regs.getWord_setWord_other (g : Regs) {r r' : AddrReg} (w : Word) (h : r' ≠ r) :
    (g.setWord r w).getWord r' = g.getWord r' := by
  cases r <;> cases r' <;> first | rfl | exact absurd rfl h

@[simp] theorem Regs.getWord_setByte (g : Regs) (r : ByteReg) (v : Byte) (x : AddrReg) :
    (g.setByte r v).getWord x = g.getWord x := by
  cases r <;> cases x <;> rfl

@[simp] theorem Regs.getByte_setWord (g : Regs) (x : AddrReg) (w : Word) (r : ByteReg) :
    (g.setWord x w).getByte r = g.getByte r := by
  cases r <;> cases x <;> rfl

@[simp] theorem Regs.rhs_setByte (g : Regs) (r : ByteReg) (v : Byte) : (g.setByte r v).rhs = g.rhs := by
  cases r <;> rfl

@[simp] theorem Regs.rhs_setWord (g : Regs) (x : AddrReg) (w : Word) : (g.setWord x w).rhs = g.rhs := by
  cases x <;> rfl

@[simp] theorem Regs.setWord_getWord (g : Regs) (x : AddrReg) : g.setWord x (g.getWord x) = g := by
  cases x <;> rfl

@[simp] theorem Regs.setWord_setWord (g : Regs) (x : AddrReg) (w w' : Word) :
    (g.setWord x w).setWord x w' = g.setWord x w' := by
  cases x <;> rfl

@[simp] theorem Regs.setByte_setByte (g : Regs) (r : ByteReg) (v v' : Byte) :
    (g.setByte r v).setByte r v' = g.setByte r v' := by
  cases r <;> rfl

/-- Writing an address register and a byte register commute. -/
theorem Regs.setByte_setWord (g : Regs) (r : ByteReg) (v : Byte) (x : AddrReg) (w : Word) :
    (g.setWord x w).setByte r v = (g.setByte r v).setWord x w := by
  cases r <;> cases x <;> rfl

/-! ### Component ids (10_state.md R20) -/

/-- Every id names one component and every component has one id. -/
theorem CompId_ofCode_code (c : CompId) : CompId.ofCode c.code = c := by
  cases c with
  | byte r => cases r <;> rfl
  | addr r => cases r <;> rfl
  | alu => rfl
  | none => rfl
  | mem => rfl

theorem CompId_code_ofCode (x : BitVec 4) : (CompId.ofCode x).code = x := by
  revert x
  decide

/-- The channel side of an IO step holds the channel number. -/
theorem CompId_channel_ofCode (x : BitVec 4) : (CompId.ofCode x).channel = x.toFin := by
  rw [CompId.channel, CompId_code_ofCode]

@[simp] theorem CompId_channel_ofCode_zero : (CompId.ofCode 0#4).channel = 0 := rfl

@[simp] theorem CompId_channel_ofCode_one : (CompId.ofCode 1#4).channel = 1 := rfl

/-- The operation codes are as 41_alu.md R181 numbers them. -/
@[simp] theorem AluOp_ofCode_code (op : AluOp) : AluOp.ofCode op.code = op := by
  cases op <;> rfl

end Sys2Proof.Machine
end

