-- ==== Sys2Proof/Laws/Cycle.lean ====
section
/-! SUPPORT. One cycle, said once for each pair of sides a well-formed step can have (40_bus_transactions.md R145 to R171), and
what any cycle can do. Later proofs cite these and do not unfold `cycle`. -/

namespace Sys2Proof.Machine

open Sys2Proof

/-! ### Outcomes -/

@[simp] theorem andThen_next (s : State) (f : State → Out) : andThen (.next s) f = f s := rfl
@[simp] theorem andThen_fault (e : Fault) (f : State → Out) : andThen (.fault e) f = .fault e := rfl
@[simp] theorem andThen_refused (r : Refusal) (f : State → Out) : andThen (.refused r) f = .refused r := rfl
@[simp] theorem takeError_next (s : State) : takeError (.next s) = .next s := rfl
@[simp] theorem takeError_fault (e : Fault) : takeError (.fault e) = .fault (e.mapLeft State.betweenInstructions) := rfl
@[simp] theorem takeError_refused (r : Refusal) : takeError (.refused r) = .refused r := rfl

theorem andThen_assoc (o : Out) (f g : State → Out) : andThen (andThen o f) g = andThen o fun s => andThen (f s) g := by
  cases o <;> rfl

/-- A sequence answers a next state iff both parts do. -/
theorem andThen_eq_next {o : Out} {f : State → Out} {t : State} :
    andThen o f = .next t ↔ ∃ s, o = .next s ∧ f s = .next t := by
  cases o <;> simp

theorem andThen_eq_fault {o : Out} {f : State → Out} {e : Fault} :
    andThen o f = .fault e ↔ o = .fault e ∨ ∃ s, o = .next s ∧ f s = .fault e := by
  cases o <;> simp

theorem takeError_eq_next {o : Out} {t : State} : takeError o = .next t ↔ o = .next t := by
  cases o <;> simp

/-- Taking errors twice is taking them once. -/
theorem takeError_idem (o : Out) : takeError (takeError o) = takeError o := by
  cases o with
  | fault e => cases e <;> rfl
  | next s => rfl
  | refused r => rfl

/-- The errors of the first part may be taken with those of the whole. -/
theorem takeError_andThen_takeError (o : Out) (f : State → Out) :
    takeError (andThen (takeError o) f) = takeError (andThen o f) := by
  cases o with
  | fault e => cases e <;> rfl
  | next s => rfl
  | refused r => rfl

/-! ### Flags of a transfer -/

@[simp] theorem adjust_zero (w : Word) : adjust 0#4 w = w := rfl
@[simp] theorem adjust_inc (w : Word) : adjust OpFlags.inc w = w + 1 := rfl
@[simp] theorem adjust_dec (w : Word) : adjust OpFlags.dec w = w - 1 := rfl
@[simp] theorem adjust_msb (w : Word) : adjust OpFlags.msb w = w := rfl
@[simp] theorem adjust_idx (w : Word) : adjust OpFlags.idx w = w := rfl
@[simp] theorem adjust_inc_zero (w : Word) : adjust (OpFlags.inc ||| 0#4) w = w + 1 := rfl
@[simp] theorem adjust_inc_msb (w : Word) : adjust (OpFlags.inc ||| OpFlags.msb) w = w + 1 := rfl
@[simp] theorem preAdjust_zero (w : Word) : preAdjust 0#4 w = w := rfl
@[simp] theorem preAdjust_inc (w : Word) : preAdjust OpFlags.inc w = w := rfl
@[simp] theorem preAdjust_dec (w : Word) : preAdjust OpFlags.dec w = w - 1 := rfl
@[simp] theorem postAdjust_zero (w : Word) : postAdjust 0#4 w = w := rfl
@[simp] theorem postAdjust_inc (w : Word) : postAdjust OpFlags.inc w = w + 1 := rfl
@[simp] theorem postAdjust_dec (w : Word) : postAdjust OpFlags.dec w = w := rfl
@[simp] theorem selectByte_zero (w : Word) : selectByte 0#4 w = lo8 w := rfl
@[simp] theorem selectByte_inc (w : Word) : selectByte OpFlags.inc w = lo8 w := rfl
@[simp] theorem preAdjust_msb (w : Word) : preAdjust OpFlags.msb w = w := rfl
@[simp] theorem preAdjust_idx (w : Word) : preAdjust OpFlags.idx w = w := rfl
@[simp] theorem postAdjust_msb (w : Word) : postAdjust OpFlags.msb w = w := rfl
@[simp] theorem postAdjust_idx (w : Word) : postAdjust OpFlags.idx w = w := rfl
@[simp] theorem selectByte_idx (w : Word) : selectByte OpFlags.idx w = lo8 w := rfl
@[simp] theorem selectByte_msb (w : Word) : selectByte OpFlags.msb w = hi8 w := rfl
@[simp] theorem loadByte_zero (w : Word) (b : Byte) : loadByte 0#4 w b = word (hi8 w) b := rfl
@[simp] theorem loadByte_inc (w : Word) (b : Byte) : loadByte OpFlags.inc w b = word (hi8 w) b := rfl
@[simp] theorem loadByte_msb (w : Word) (b : Byte) : loadByte OpFlags.msb w b = word b (lo8 w) := rfl
@[simp] theorem loadByte_inc_zero (w : Word) (b : Byte) : loadByte (OpFlags.inc ||| 0#4) w b = word (hi8 w) b := rfl
@[simp] theorem loadByte_inc_msb (w : Word) (b : Byte) :
    loadByte (OpFlags.inc ||| OpFlags.msb) w b = word b (lo8 w) := rfl
@[simp] theorem loadByte_idx (w : Word) (b : Byte) : loadByte OpFlags.idx w b = indexedAddress w b := rfl

/-! ### XDATA steps -/

/-- XDATA from a byte register to a byte register. -/
theorem cycle_byte_byte (x y : ByteReg) (f : OpFlags) (d : Bool) (b : Option Byte) (s : State) :
    cycle ⟨.xdata, .byte x, .byte y, f, d⟩ false b s =
      .next (((programBus ⟨.xdata, .byte x, .byte y, f, d⟩ s).driveData (s.regs.getByte x)).latchByte y
        (s.regs.getByte x)) := rfl

/-- XDATA from a byte register to the ALU, an operation (41_alu.md R182). -/
theorem cycle_byte_alu (x : ByteReg) (f : OpFlags) (d : Bool) (b : Option Byte) (s : State) :
    cycle ⟨.xdata, .byte x, .alu, f, d⟩ false b s =
      aluOperate (.ofCode f) ((programBus ⟨.xdata, .byte x, .alu, f, d⟩ s).driveData (s.regs.getByte x)) := rfl

/-- XDATA from an address register to the ALU: the low byte is driven, nothing is adjusted. -/
theorem cycle_addr_alu (x : AddrReg) (f : OpFlags) (d : Bool) (b : Option Byte) (s : State) :
    cycle ⟨.xdata, .addr x, .alu, f, d⟩ false b s =
      aluOperate (.ofCode f) ((programBus ⟨.xdata, .addr x, .alu, f, d⟩ s).driveData (lo8 (s.regs.getWord x))) := by
  simp [cycle, effectiveStep, risingEdge, highClock, driveByteSide, driveAddrByte, latchByteSide, adjustTarget,
    transferFlags, State.setWord, State.driveData, programBus]

/-- XDATA from a byte register to memory: a write at the cursor, then the cursor adjusted. -/
theorem cycle_byte_mem (x : ByteReg) (f : OpFlags) (d : Bool) (b : Option Byte) (s : State) :
    cycle ⟨.xdata, .byte x, .mem, f, d⟩ false b s =
      latchMem f ((programBus ⟨.xdata, .byte x, .mem, f, d⟩ s).driveData (s.regs.getByte x)) := rfl

/-- XDATA from an address register to memory: the selected byte written at the cursor, then the cursor adjusted. -/
theorem cycle_addr_mem (x : AddrReg) (f : OpFlags) (d : Bool) (b : Option Byte) (s : State) :
    cycle ⟨.xdata, .addr x, .mem, f, d⟩ false b s =
      latchMem f ((programBus ⟨.xdata, .addr x, .mem, f, d⟩ s).driveData (selectByte f (s.regs.getWord x))) := by
  simp [cycle, effectiveStep, risingEdge, highClock, driveByteSide, driveAddrByte, latchByteSide, adjustTarget,
    transferFlags, State.setWord, State.driveData, programBus]

/-- What MEM drives: the byte of the stream if it has been read, else the byte at the cursor, if mapped. -/
theorem driveMem_some {f : OpFlags} {b : Option Byte} {s : State} {v : Byte}
    (h : b.or (s.mem.readByte s.regs.memaddr.toNat) = some v) :
    driveMem f b s = .next ((s.driveData v).setWord .memaddr (adjust f s.regs.memaddr)) := by
  simp [driveMem, h]

theorem driveMem_none {f : OpFlags} {s : State} (h : s.mem.readByte s.regs.memaddr.toNat = none) :
    driveMem f none s = .fault (.protectedMemory s) := by
  simp [driveMem, h, raise]

/-- XDATA from memory to a byte register: the read, the cursor adjusted, the register loaded. -/
theorem cycle_mem_byte (y : ByteReg) (f : OpFlags) (d : Bool) {b : Option Byte} {s : State} {v : Byte}
    (h : b.or (s.mem.readByte s.regs.memaddr.toNat) = some v) :
    cycle ⟨.xdata, .mem, .byte y, f, d⟩ false b s =
      .next ((((programBus ⟨.xdata, .mem, .byte y, f, d⟩ s).driveData v).setWord .memaddr
        (adjust f s.regs.memaddr)).latchByte y v) := by
  have : driveMem f b (programBus ⟨.xdata, .mem, .byte y, f, d⟩ s) = _ := driveMem_some (by simpa using h)
  simp [cycle, effectiveStep, risingEdge, highClock, driveByteSide, latchByteSide, transferFlags, this]

/-- XDATA from memory to an address register: the read, the cursor adjusted, half the register (or the indexed sum)
loaded. -/
theorem cycle_mem_addr (y : AddrReg) (f : OpFlags) (d : Bool) {b : Option Byte} {s : State} {v : Byte}
    (h : b.or (s.mem.readByte s.regs.memaddr.toNat) = some v) :
    cycle ⟨.xdata, .mem, .addr y, f, d⟩ false b s =
      .next ((((programBus ⟨.xdata, .mem, .addr y, f, d⟩ s).driveData v).setWord .memaddr
        (adjust f s.regs.memaddr)).latchWord y
          (loadByte f ((s.regs.setWord .memaddr (adjust f s.regs.memaddr)).getWord y) v)) := by
  have : driveMem f b (programBus ⟨.xdata, .mem, .addr y, f, d⟩ s) = _ := driveMem_some (by simpa using h)
  simp [cycle, effectiveStep, risingEdge, highClock, driveByteSide, latchByteSide, latchAddrByte, adjustTarget,
    transferFlags, this]

/-- An instruction-stream read into a byte register: the byte already read is loaded, the cursor adjusted. -/
theorem cycle_stream_byte (y : ByteReg) (f : OpFlags) (d : Bool) (v : Byte) (s : State) :
    cycle ⟨.xdata, .mem, .byte y, f, d⟩ false (some v) s =
      .next ((((programBus ⟨.xdata, .mem, .byte y, f, d⟩ s).driveData v).setWord .memaddr
        (adjust f s.regs.memaddr)).latchByte y v) :=
  cycle_mem_byte y f d (by simp)

/-- An instruction-stream read into an address register. -/
theorem cycle_stream_addr (y : AddrReg) (f : OpFlags) (d : Bool) (v : Byte) (s : State) :
    cycle ⟨.xdata, .mem, .addr y, f, d⟩ false (some v) s =
      .next ((((programBus ⟨.xdata, .mem, .addr y, f, d⟩ s).driveData v).setWord .memaddr
        (adjust f s.regs.memaddr)).latchWord y
          (loadByte f ((s.regs.setWord .memaddr (adjust f s.regs.memaddr)).getWord y) v)) :=
  cycle_mem_addr y f d (by simp)

/-- XDATA from memory at an unmapped cursor: ProtectedMemory, nothing but the bus fields changed. -/
theorem cycle_mem_fault (p : CompId) (f : OpFlags) (d : Bool) {s : State}
    (h : s.mem.readByte s.regs.memaddr.toNat = none) :
    cycle ⟨.xdata, .mem, p, f, d⟩ false none s =
      .fault (.protectedMemory (programBus ⟨.xdata, .mem, p, f, d⟩ s)) := by
  have : ∀ g, driveMem g none (programBus ⟨.xdata, .mem, p, f, d⟩ s) = _ := fun g => driveMem_none (by simpa using h)
  simp [cycle, effectiveStep, risingEdge, driveByteSide, this]

/-- XDATA from an address register to another: the selected byte of the get, adjusted around the drive, latched into the
put. -/
theorem cycle_addr_addr (x y : AddrReg) (f : OpFlags) (d : Bool) (b : Option Byte) (s : State) :
    cycle ⟨.xdata, .addr x, .addr y, f, d⟩ false b s =
      .next ((((programBus ⟨.xdata, .addr x, .addr y, f, d⟩ s).driveData
          (selectByte f (preAdjust f (s.regs.getWord x)))).setWord x
          (postAdjust f (preAdjust f (s.regs.getWord x)))).latchWord y
        (loadByte f ((s.regs.setWord x (postAdjust f (preAdjust f (s.regs.getWord x)))).getWord y)
          (selectByte f (preAdjust f (s.regs.getWord x))))) := by
  simp [cycle, effectiveStep, risingEdge, highClock, driveByteSide, driveAddrByte, latchByteSide, latchAddrByte,
    adjustTarget, transferFlags, State.setWord, State.driveData, programBus, State.latchWord]

/-- Writing memory at the cursor, when the address is writable. -/
theorem latchMem_some {f : OpFlags} {s : State} (h : s.mem.writable s.regs.memaddr.toNat = true) :
    latchMem f s = .next ({ s with mem := { s.mem with
      cells := storeCell s.mem.cells s.regs.memaddr.toNat s.bus.data } }.setWord .memaddr
        (adjust f s.regs.memaddr)) := by
  simp [latchMem, writeByte_some s.bus.data h]

/-- Writing memory at the cursor, when the address is unmapped or read-only: ProtectedMemory, nothing changes. -/
theorem latchMem_fault {f : OpFlags} {s : State} (h : s.mem.writable s.regs.memaddr.toNat = false) :
    latchMem f s = .fault (.protectedMemory s) := by
  simp [latchMem, writeByte_none s.bus.data h, raise]

/-! ### XADDR steps -/

/-- XADDR from an address register to another: the whole word, pre-decremented or post-incremented (40_bus_transactions.md
R151, R153). -/
theorem cycle_xaddr (x y : AddrReg) (f : OpFlags) (d : Bool) (b : Option Byte) (s : State) :
    cycle ⟨.xaddr, .addr x, .addr y, f, d⟩ false b s =
      .next ((((programBus ⟨.xaddr, .addr x, .addr y, f, d⟩ s).driveWord (preAdjust f (s.regs.getWord x))).setWord x
        (postAdjust f (preAdjust f (s.regs.getWord x)))).latchWord y (preAdjust f (s.regs.getWord x))) := by
  simp [cycle, effectiveStep, risingEdge, highClock, driveWordSide, latchWordSide]

/-- The flags exported to an address register (40_bus_transactions.md R164, R153). -/
theorem cycle_flags_addr (y : AddrReg) (f : OpFlags) (d : Bool) (b : Option Byte) (s : State) :
    cycle ⟨.xaddr, .alu, .addr y, f, d⟩ false b s =
      .next (((programBus ⟨.xaddr, .alu, .addr y, f, d⟩ s).driveWord (word 0 (flagsByte s.flags))).latchWord y
        (word 0 (flagsByte s.flags))) := by
  simp [cycle, effectiveStep, risingEdge, highClock, driveWordSide, latchWordSide]

/-- The flags imported from an address register's low byte (40_bus_transactions.md R151, R165). -/
theorem cycle_addr_flags (x : AddrReg) (f : OpFlags) (d : Bool) (b : Option Byte) (s : State) :
    cycle ⟨.xaddr, .addr x, .alu, f, d⟩ false b s =
      .next { (programBus ⟨.xaddr, .addr x, .alu, f, d⟩ s).driveWord (s.regs.getWord x) with
        flags := flagsOfByte (lo8 (s.regs.getWord x)) } := by
  simp [cycle, effectiveStep, risingEdge, highClock, driveWordSide, latchWordSide, programBus, State.driveWord]

/-! ### IO and OTHER steps -/

/-- IOIN to a byte register (40_bus_transactions.md R167). -/
theorem cycle_io_in (g : CompId) (y : ByteReg) (d : Bool) (b : Option Byte) (s : State) :
    cycle ⟨.io, g, .byte y, OpFlags.ioIn, d⟩ false b s =
      andThen (channelInput g.channel (programBus ⟨.io, g, .byte y, OpFlags.ioIn, d⟩ s))
        (fun t => .next (t.latchByte y t.bus.data)) := rfl

/-- IOOUT from a byte register (40_bus_transactions.md R167). -/
theorem cycle_io_out (x : ByteReg) (p : CompId) (d : Bool) (b : Option Byte) (s : State) :
    cycle ⟨.io, .byte x, p, OpFlags.ioOut, d⟩ false b s =
      channelOutput p.channel
        ((programBus ⟨.io, .byte x, p, OpFlags.ioOut, d⟩ s).driveData (s.regs.getByte x)) := rfl

/-- HALT (40_bus_transactions.md R170). -/
theorem cycle_halt (d : Bool) (b : Option Byte) (s : State) :
    cycle ⟨.other, .none, .none, OpFlags.halt, d⟩ false b s =
      .next { programBus ⟨.other, .none, .none, OpFlags.halt, d⟩ s with lines := { s.lines with halt := true } } := rfl

/-- An idle cycle (40_bus_transactions.md R171): only the transaction fields change. -/
theorem cycle_idle (d : Bool) (b : Option Byte) (s : State) :
    cycle ⟨.other, .none, .none, 0#4, d⟩ false b s =
      .next (programBus ⟨.other, .none, .none, 0#4, d⟩ s) := rfl

/-- A suppressed step is an idle cycle that keeps its Done bit (40_bus_transactions.md R142). -/
theorem cycle_suppressed (st : Step) (b : Option Byte) (s : State) :
    cycle st true b s = .next (programBus ⟨.other, .none, .none, 0#4, st.done⟩ s) := rfl

/-! ### What any cycle can do -/

/-- What a phase, a cycle or an instruction leaves alone in every outcome that has a state: the table, the banks, the channel
directions, and the lines but for halt, which can only be set. -/
structure Steady (s t : State) : Prop where
  table : t.table = s.table
  banks : t.mem.banks = s.mem.banks
  channels : t.io.channels = s.io.channels
  suspend : t.lines.suspend = s.lines.suspend
  nmi : t.lines.nmi = s.lines.nmi
  runMode : t.lines.runMode = s.lines.runMode
  halt : s.lines.halt = true → t.lines.halt = true
  memWf : s.mem.wf → t.mem.wf
  readOnly : ∀ a, s.mem.writable a = false → t.mem.readByte a = s.mem.readByte a

theorem Steady.refl (s : State) : Steady s s :=
  ⟨rfl, rfl, rfl, rfl, rfl, rfl, id, id, fun _ _ => rfl⟩

theorem Steady.trans {s t u : State} (h : Steady s t) (k : Steady t u) : Steady s u :=
  ⟨k.table.trans h.table, k.banks.trans h.banks, k.channels.trans h.channels, k.suspend.trans h.suspend,
   k.nmi.trans h.nmi, k.runMode.trans h.runMode, k.halt ∘ h.halt, k.memWf ∘ h.memWf,
   fun a ha => (k.readOnly a (by rw [writable_congr h.banks]; exact ha)).trans (h.readOnly a ha)⟩

/-- A state that differs only in registers, flags, bus, controller, counter, events or channel data is steady. -/
theorem Steady.of_eq {s t : State} (h1 : t.table = s.table) (h2 : t.mem = s.mem) (h3 : t.lines = s.lines)
    (h4 : t.io.channels = s.io.channels) : Steady s t :=
  ⟨h1, by rw [h2], h4, by rw [h3], by rw [h3], by rw [h3], by rw [h3]; exact id, by rw [h2]; exact id,
   fun a _ => by rw [h2]⟩

/-- The state an outcome has, if any, is steady. -/
def SteadyOut (s : State) : Out → Prop
  | .next t => Steady s t
  | .fault e => Steady s e.left
  | .refused _ => True

theorem SteadyOut.andThen {s : State} {o : Out} {f : State → Out} (h : SteadyOut s o)
    (k : ∀ t, SteadyOut t (f t)) : SteadyOut s (Machine.andThen o f) := by
  cases o with
  | next t =>
    have hk := k t
    show SteadyOut s (f t)
    cases hf : f t with
    | next u => rw [hf] at hk; exact h.trans hk
    | fault e => rw [hf] at hk; exact h.trans hk
    | refused r => trivial
  | fault e => exact h
  | refused r => trivial

theorem SteadyOut.takeError {s : State} {o : Out} (h : SteadyOut s o) : SteadyOut s (Machine.takeError o) := by
  cases o with
  | next t => exact h
  | fault e => cases e <;> exact h.trans (.of_eq rfl rfl rfl rfl)
  | refused r => trivial

theorem channelInput_steady (ch : Fin 16) (s : State) : SteadyOut s (channelInput ch s) := by
  simp only [channelInput]
  split
  · split
    · trivial
    · exact .of_eq rfl rfl rfl rfl
  · exact .refl s

theorem channelOutput_steady (ch : Fin 16) (s : State) : SteadyOut s (channelOutput ch s) := by
  simp only [channelOutput]
  split
  · exact .of_eq rfl rfl rfl rfl
  · exact .refl s

theorem driveMem_steady (f : OpFlags) (b : Option Byte) (s : State) : SteadyOut s (driveMem f b s) := by
  simp only [driveMem]
  split
  · exact .of_eq rfl rfl rfl rfl
  · exact .refl s

theorem latchMem_steady (f : OpFlags) (s : State) : SteadyOut s (latchMem f s) := by
  simp only [latchMem]
  split
  · rename_i m hm
    obtain ⟨hw, hb, hr⟩ := writeByte_effect hm
    refine ⟨rfl, hb, rfl, rfl, rfl, rfl, id, writeByte_wf hm, fun a ha => ?_⟩
    refine (hr a).trans (if_neg fun h => ?_)
    subst h
    simp [ha] at hw
  · exact .refl s

theorem aluOperate_steady (op : AluOp) (s : State) : SteadyOut s (aluOperate op s) := by
  simp only [aluOperate]
  split
  · split <;> exact .of_eq rfl rfl rfl rfl
  · exact .refl s

theorem driveByteSide_steady (st : Step) (b : Option Byte) (s : State) : SteadyOut s (driveByteSide st b s) := by
  simp only [driveByteSide]
  split
  · exact .of_eq rfl rfl rfl rfl
  · exact .of_eq rfl rfl rfl rfl
  · exact driveMem_steady _ _ _
  · exact .refl s
  · exact .refl s

theorem latchByteSide_steady (st : Step) (s : State) : SteadyOut s (latchByteSide st s) := by
  simp only [latchByteSide]
  split
  · exact .of_eq rfl rfl rfl rfl
  · exact .of_eq rfl rfl rfl rfl
  · exact latchMem_steady _ _
  · split
    · exact aluOperate_steady _ _
    · exact .refl s
  · exact .refl s

theorem risingEdge_steady (st : Step) (b : Option Byte) (s : State) : SteadyOut s (risingEdge st b s) := by
  simp only [risingEdge]
  split
  · exact driveByteSide_steady _ _ _
  · simp only [driveWordSide]
    split <;> exact .of_eq rfl rfl rfl rfl
  · split
    · exact channelInput_steady _ _
    · exact driveByteSide_steady _ _ _
  · exact .refl s

theorem highClock_steady (st : Step) (s : State) : SteadyOut s (highClock st s) := by
  simp only [highClock]
  split
  · exact latchByteSide_steady _ _
  · simp only [latchWordSide]
    split <;> exact .of_eq rfl rfl rfl rfl
  · split
    · exact latchByteSide_steady _ _
    · exact channelOutput_steady _ _
  · split
    · exact ⟨rfl, rfl, rfl, rfl, rfl, rfl, fun _ => rfl, id, fun _ _ => rfl⟩
    · exact .refl s

/-- Any cycle, whatever its outcome, is steady. -/
theorem cycle_steady (st : Step) (sup : Bool) (b : Option Byte) (s : State) : SteadyOut s (cycle st sup b s) := by
  have h : Steady s (programBus (effectiveStep st sup) s) := .of_eq rfl rfl rfl rfl
  have h2 := SteadyOut.andThen (risingEdge_steady (effectiveStep st sup) b (programBus (effectiveStep st sup) s))
    (highClock_steady (effectiveStep st sup))
  simp only [cycle]
  cases ho : andThen (risingEdge (effectiveStep st sup) b (programBus (effectiveStep st sup) s))
      (highClock (effectiveStep st sup)) with
  | next t => rw [ho] at h2; exact h.trans h2
  | fault e => rw [ho] at h2; exact h.trans h2
  | refused r => trivial

end Sys2Proof.Machine
end

