-- ==== Sys2Proof/Laws/PerInstr.lean ====
section
/-! SUPPORT. The statements made for each instruction as syntax. Family EncodingShape: the default table's entry for the
instruction's opcode is the instruction's own, it is well formed (30_encoding.md R105, R106), and the encoding has the length
its mode gives (R91), the opcode first. -/

namespace Sys2Proof.Laws

open Sys2Proof.Machine

/-- The shape of one instruction's encoding. -/
def EncodingShape.Statement (i : Instr) : Prop :=
  (microcode i).wellFormed = true ∧ (encode i).length = 1 + operandBytes (microcode i).mode ∧
    (encode i).head? = some i.opcode ∧ defaultEntry i.opcode = some (microcode i)

theorem EncodingShape.nop : EncodingShape.Statement .nop :=
  ⟨rfl, rfl, rfl, rfl⟩
theorem EncodingShape.movAImm (i8 : Byte) : EncodingShape.Statement (.movAImm i8) :=
  ⟨rfl, rfl, rfl, show defaultEntry 0x01#8 = _ from rfl⟩
theorem EncodingShape.movBImm (i8 : Byte) : EncodingShape.Statement (.movBImm i8) :=
  ⟨rfl, rfl, rfl, show defaultEntry 0x02#8 = _ from rfl⟩
theorem EncodingShape.movCImm (i8 : Byte) : EncodingShape.Statement (.movCImm i8) :=
  ⟨rfl, rfl, rfl, show defaultEntry 0x03#8 = _ from rfl⟩
theorem EncodingShape.movDImm (i8 : Byte) : EncodingShape.Statement (.movDImm i8) :=
  ⟨rfl, rfl, rfl, show defaultEntry 0x04#8 = _ from rfl⟩
theorem EncodingShape.movAMem (a16 : Word) : EncodingShape.Statement (.movAMem a16) :=
  ⟨rfl, rfl, rfl, show defaultEntry 0x05#8 = _ from rfl⟩
theorem EncodingShape.movBMem (a16 : Word) : EncodingShape.Statement (.movBMem a16) :=
  ⟨rfl, rfl, rfl, show defaultEntry 0x06#8 = _ from rfl⟩
theorem EncodingShape.movCMem (a16 : Word) : EncodingShape.Statement (.movCMem a16) :=
  ⟨rfl, rfl, rfl, show defaultEntry 0x07#8 = _ from rfl⟩
theorem EncodingShape.movDMem (a16 : Word) : EncodingShape.Statement (.movDMem a16) :=
  ⟨rfl, rfl, rfl, show defaultEntry 0x08#8 = _ from rfl⟩
theorem EncodingShape.movMemA (a16 : Word) : EncodingShape.Statement (.movMemA a16) :=
  ⟨rfl, rfl, rfl, show defaultEntry 0x09#8 = _ from rfl⟩
theorem EncodingShape.movMemB (a16 : Word) : EncodingShape.Statement (.movMemB a16) :=
  ⟨rfl, rfl, rfl, show defaultEntry 0x0A#8 = _ from rfl⟩
theorem EncodingShape.movMemC (a16 : Word) : EncodingShape.Statement (.movMemC a16) :=
  ⟨rfl, rfl, rfl, show defaultEntry 0x0B#8 = _ from rfl⟩
theorem EncodingShape.movMemD (a16 : Word) : EncodingShape.Statement (.movMemD a16) :=
  ⟨rfl, rfl, rfl, show defaultEntry 0x0C#8 = _ from rfl⟩
theorem EncodingShape.movAB : EncodingShape.Statement .movAB :=
  ⟨rfl, rfl, rfl, rfl⟩
theorem EncodingShape.movAC : EncodingShape.Statement .movAC :=
  ⟨rfl, rfl, rfl, rfl⟩
theorem EncodingShape.movAD : EncodingShape.Statement .movAD :=
  ⟨rfl, rfl, rfl, rfl⟩
theorem EncodingShape.movBA : EncodingShape.Statement .movBA :=
  ⟨rfl, rfl, rfl, rfl⟩
theorem EncodingShape.movBC : EncodingShape.Statement .movBC :=
  ⟨rfl, rfl, rfl, rfl⟩
theorem EncodingShape.movBD : EncodingShape.Statement .movBD :=
  ⟨rfl, rfl, rfl, rfl⟩
theorem EncodingShape.movCA : EncodingShape.Statement .movCA :=
  ⟨rfl, rfl, rfl, rfl⟩
theorem EncodingShape.movCB : EncodingShape.Statement .movCB :=
  ⟨rfl, rfl, rfl, rfl⟩
theorem EncodingShape.movCD : EncodingShape.Statement .movCD :=
  ⟨rfl, rfl, rfl, rfl⟩
theorem EncodingShape.movDA : EncodingShape.Statement .movDA :=
  ⟨rfl, rfl, rfl, rfl⟩
theorem EncodingShape.movDB : EncodingShape.Statement .movDB :=
  ⟨rfl, rfl, rfl, rfl⟩
theorem EncodingShape.movDC : EncodingShape.Statement .movDC :=
  ⟨rfl, rfl, rfl, rfl⟩
theorem EncodingShape.movSpImm (i16 : Word) : EncodingShape.Statement (.movSpImm i16) :=
  ⟨rfl, rfl, rfl, show defaultEntry 0x19#8 = _ from rfl⟩
theorem EncodingShape.movBpImm (i16 : Word) : EncodingShape.Statement (.movBpImm i16) :=
  ⟨rfl, rfl, rfl, show defaultEntry 0x1A#8 = _ from rfl⟩
theorem EncodingShape.movSiImm (i16 : Word) : EncodingShape.Statement (.movSiImm i16) :=
  ⟨rfl, rfl, rfl, show defaultEntry 0x1B#8 = _ from rfl⟩
theorem EncodingShape.movDiImm (i16 : Word) : EncodingShape.Statement (.movDiImm i16) :=
  ⟨rfl, rfl, rfl, show defaultEntry 0x1C#8 = _ from rfl⟩
theorem EncodingShape.movSpMem (a16 : Word) : EncodingShape.Statement (.movSpMem a16) :=
  ⟨rfl, rfl, rfl, show defaultEntry 0x1D#8 = _ from rfl⟩
theorem EncodingShape.movBpMem (a16 : Word) : EncodingShape.Statement (.movBpMem a16) :=
  ⟨rfl, rfl, rfl, show defaultEntry 0x1E#8 = _ from rfl⟩
theorem EncodingShape.movSiMem (a16 : Word) : EncodingShape.Statement (.movSiMem a16) :=
  ⟨rfl, rfl, rfl, show defaultEntry 0x1F#8 = _ from rfl⟩
theorem EncodingShape.movDiMem (a16 : Word) : EncodingShape.Statement (.movDiMem a16) :=
  ⟨rfl, rfl, rfl, show defaultEntry 0x20#8 = _ from rfl⟩
theorem EncodingShape.movMemSp (a16 : Word) : EncodingShape.Statement (.movMemSp a16) :=
  ⟨rfl, rfl, rfl, show defaultEntry 0x21#8 = _ from rfl⟩
theorem EncodingShape.movMemBp (a16 : Word) : EncodingShape.Statement (.movMemBp a16) :=
  ⟨rfl, rfl, rfl, show defaultEntry 0x22#8 = _ from rfl⟩
theorem EncodingShape.movMemSi (a16 : Word) : EncodingShape.Statement (.movMemSi a16) :=
  ⟨rfl, rfl, rfl, show defaultEntry 0x23#8 = _ from rfl⟩
theorem EncodingShape.movMemDi (a16 : Word) : EncodingShape.Statement (.movMemDi a16) :=
  ⟨rfl, rfl, rfl, show defaultEntry 0x24#8 = _ from rfl⟩
theorem EncodingShape.movSpBp : EncodingShape.Statement .movSpBp :=
  ⟨rfl, rfl, rfl, rfl⟩
theorem EncodingShape.movSpSi : EncodingShape.Statement .movSpSi :=
  ⟨rfl, rfl, rfl, rfl⟩
theorem EncodingShape.movSpDi : EncodingShape.Statement .movSpDi :=
  ⟨rfl, rfl, rfl, rfl⟩
theorem EncodingShape.movBpSp : EncodingShape.Statement .movBpSp :=
  ⟨rfl, rfl, rfl, rfl⟩
theorem EncodingShape.movBpSi : EncodingShape.Statement .movBpSi :=
  ⟨rfl, rfl, rfl, rfl⟩
theorem EncodingShape.movBpDi : EncodingShape.Statement .movBpDi :=
  ⟨rfl, rfl, rfl, rfl⟩
theorem EncodingShape.movSiSp : EncodingShape.Statement .movSiSp :=
  ⟨rfl, rfl, rfl, rfl⟩
theorem EncodingShape.movSiBp : EncodingShape.Statement .movSiBp :=
  ⟨rfl, rfl, rfl, rfl⟩
theorem EncodingShape.movSiDi : EncodingShape.Statement .movSiDi :=
  ⟨rfl, rfl, rfl, rfl⟩
theorem EncodingShape.movDiSp : EncodingShape.Statement .movDiSp :=
  ⟨rfl, rfl, rfl, rfl⟩
theorem EncodingShape.movDiBp : EncodingShape.Statement .movDiBp :=
  ⟨rfl, rfl, rfl, rfl⟩
theorem EncodingShape.movDiSi : EncodingShape.Statement .movDiSi :=
  ⟨rfl, rfl, rfl, rfl⟩
theorem EncodingShape.movABpIdx (d8 : Byte) : EncodingShape.Statement (.movABpIdx d8) :=
  ⟨rfl, rfl, rfl, show defaultEntry 0x31#8 = _ from rfl⟩
theorem EncodingShape.movASiIdx (d8 : Byte) : EncodingShape.Statement (.movASiIdx d8) :=
  ⟨rfl, rfl, rfl, show defaultEntry 0x32#8 = _ from rfl⟩
theorem EncodingShape.movADiIdx (d8 : Byte) : EncodingShape.Statement (.movADiIdx d8) :=
  ⟨rfl, rfl, rfl, show defaultEntry 0x33#8 = _ from rfl⟩
theorem EncodingShape.movBBpIdx (d8 : Byte) : EncodingShape.Statement (.movBBpIdx d8) :=
  ⟨rfl, rfl, rfl, show defaultEntry 0x34#8 = _ from rfl⟩
theorem EncodingShape.movBSiIdx (d8 : Byte) : EncodingShape.Statement (.movBSiIdx d8) :=
  ⟨rfl, rfl, rfl, show defaultEntry 0x35#8 = _ from rfl⟩
theorem EncodingShape.movBDiIdx (d8 : Byte) : EncodingShape.Statement (.movBDiIdx d8) :=
  ⟨rfl, rfl, rfl, show defaultEntry 0x36#8 = _ from rfl⟩
theorem EncodingShape.movCBpIdx (d8 : Byte) : EncodingShape.Statement (.movCBpIdx d8) :=
  ⟨rfl, rfl, rfl, show defaultEntry 0x37#8 = _ from rfl⟩
theorem EncodingShape.movCSiIdx (d8 : Byte) : EncodingShape.Statement (.movCSiIdx d8) :=
  ⟨rfl, rfl, rfl, show defaultEntry 0x38#8 = _ from rfl⟩
theorem EncodingShape.movCDiIdx (d8 : Byte) : EncodingShape.Statement (.movCDiIdx d8) :=
  ⟨rfl, rfl, rfl, show defaultEntry 0x39#8 = _ from rfl⟩
theorem EncodingShape.movDBpIdx (d8 : Byte) : EncodingShape.Statement (.movDBpIdx d8) :=
  ⟨rfl, rfl, rfl, show defaultEntry 0x3A#8 = _ from rfl⟩
theorem EncodingShape.movDSiIdx (d8 : Byte) : EncodingShape.Statement (.movDSiIdx d8) :=
  ⟨rfl, rfl, rfl, show defaultEntry 0x3B#8 = _ from rfl⟩
theorem EncodingShape.movDDiIdx (d8 : Byte) : EncodingShape.Statement (.movDDiIdx d8) :=
  ⟨rfl, rfl, rfl, show defaultEntry 0x3C#8 = _ from rfl⟩
theorem EncodingShape.movBpIdxA (d8 : Byte) : EncodingShape.Statement (.movBpIdxA d8) :=
  ⟨rfl, rfl, rfl, show defaultEntry 0x3D#8 = _ from rfl⟩
theorem EncodingShape.movSiIdxA (d8 : Byte) : EncodingShape.Statement (.movSiIdxA d8) :=
  ⟨rfl, rfl, rfl, show defaultEntry 0x3E#8 = _ from rfl⟩
theorem EncodingShape.movDiIdxA (d8 : Byte) : EncodingShape.Statement (.movDiIdxA d8) :=
  ⟨rfl, rfl, rfl, show defaultEntry 0x3F#8 = _ from rfl⟩
theorem EncodingShape.movBpIdxB (d8 : Byte) : EncodingShape.Statement (.movBpIdxB d8) :=
  ⟨rfl, rfl, rfl, show defaultEntry 0x40#8 = _ from rfl⟩
theorem EncodingShape.movSiIdxB (d8 : Byte) : EncodingShape.Statement (.movSiIdxB d8) :=
  ⟨rfl, rfl, rfl, show defaultEntry 0x41#8 = _ from rfl⟩
theorem EncodingShape.movDiIdxB (d8 : Byte) : EncodingShape.Statement (.movDiIdxB d8) :=
  ⟨rfl, rfl, rfl, show defaultEntry 0x42#8 = _ from rfl⟩
theorem EncodingShape.movBpIdxC (d8 : Byte) : EncodingShape.Statement (.movBpIdxC d8) :=
  ⟨rfl, rfl, rfl, show defaultEntry 0x43#8 = _ from rfl⟩
theorem EncodingShape.movSiIdxC (d8 : Byte) : EncodingShape.Statement (.movSiIdxC d8) :=
  ⟨rfl, rfl, rfl, show defaultEntry 0x44#8 = _ from rfl⟩
theorem EncodingShape.movDiIdxC (d8 : Byte) : EncodingShape.Statement (.movDiIdxC d8) :=
  ⟨rfl, rfl, rfl, show defaultEntry 0x45#8 = _ from rfl⟩
theorem EncodingShape.movBpIdxD (d8 : Byte) : EncodingShape.Statement (.movBpIdxD d8) :=
  ⟨rfl, rfl, rfl, show defaultEntry 0x46#8 = _ from rfl⟩
theorem EncodingShape.movSiIdxD (d8 : Byte) : EncodingShape.Statement (.movSiIdxD d8) :=
  ⟨rfl, rfl, rfl, show defaultEntry 0x47#8 = _ from rfl⟩
theorem EncodingShape.movDiIdxD (d8 : Byte) : EncodingShape.Statement (.movDiIdxD d8) :=
  ⟨rfl, rfl, rfl, show defaultEntry 0x48#8 = _ from rfl⟩
theorem EncodingShape.movSiBpIdx (d8 : Byte) : EncodingShape.Statement (.movSiBpIdx d8) :=
  ⟨rfl, rfl, rfl, show defaultEntry 0x49#8 = _ from rfl⟩
theorem EncodingShape.movDiBpIdx (d8 : Byte) : EncodingShape.Statement (.movDiBpIdx d8) :=
  ⟨rfl, rfl, rfl, show defaultEntry 0x4A#8 = _ from rfl⟩
theorem EncodingShape.movBpIdxSi (d8 : Byte) : EncodingShape.Statement (.movBpIdxSi d8) :=
  ⟨rfl, rfl, rfl, show defaultEntry 0x4B#8 = _ from rfl⟩
theorem EncodingShape.movBpIdxDi (d8 : Byte) : EncodingShape.Statement (.movBpIdxDi d8) :=
  ⟨rfl, rfl, rfl, show defaultEntry 0x4C#8 = _ from rfl⟩
theorem EncodingShape.pushA : EncodingShape.Statement .pushA :=
  ⟨rfl, rfl, rfl, rfl⟩
theorem EncodingShape.pushB : EncodingShape.Statement .pushB :=
  ⟨rfl, rfl, rfl, rfl⟩
theorem EncodingShape.pushC : EncodingShape.Statement .pushC :=
  ⟨rfl, rfl, rfl, rfl⟩
theorem EncodingShape.pushD : EncodingShape.Statement .pushD :=
  ⟨rfl, rfl, rfl, rfl⟩
theorem EncodingShape.popA : EncodingShape.Statement .popA :=
  ⟨rfl, rfl, rfl, rfl⟩
theorem EncodingShape.popB : EncodingShape.Statement .popB :=
  ⟨rfl, rfl, rfl, rfl⟩
theorem EncodingShape.popC : EncodingShape.Statement .popC :=
  ⟨rfl, rfl, rfl, rfl⟩
theorem EncodingShape.popD : EncodingShape.Statement .popD :=
  ⟨rfl, rfl, rfl, rfl⟩
theorem EncodingShape.pushBp : EncodingShape.Statement .pushBp :=
  ⟨rfl, rfl, rfl, rfl⟩
theorem EncodingShape.pushSi : EncodingShape.Statement .pushSi :=
  ⟨rfl, rfl, rfl, rfl⟩
theorem EncodingShape.pushDi : EncodingShape.Statement .pushDi :=
  ⟨rfl, rfl, rfl, rfl⟩
theorem EncodingShape.popBp : EncodingShape.Statement .popBp :=
  ⟨rfl, rfl, rfl, rfl⟩
theorem EncodingShape.popSi : EncodingShape.Statement .popSi :=
  ⟨rfl, rfl, rfl, rfl⟩
theorem EncodingShape.popDi : EncodingShape.Statement .popDi :=
  ⟨rfl, rfl, rfl, rfl⟩
theorem EncodingShape.pushf : EncodingShape.Statement .pushf :=
  ⟨rfl, rfl, rfl, rfl⟩
theorem EncodingShape.popf : EncodingShape.Statement .popf :=
  ⟨rfl, rfl, rfl, rfl⟩
theorem EncodingShape.jmp (i16 : Word) : EncodingShape.Statement (.jmp i16) :=
  ⟨rfl, rfl, rfl, show defaultEntry 0x60#8 = _ from rfl⟩
theorem EncodingShape.jz (i16 : Word) : EncodingShape.Statement (.jz i16) :=
  ⟨rfl, rfl, rfl, show defaultEntry 0x61#8 = _ from rfl⟩
theorem EncodingShape.jnz (i16 : Word) : EncodingShape.Statement (.jnz i16) :=
  ⟨rfl, rfl, rfl, show defaultEntry 0x62#8 = _ from rfl⟩
theorem EncodingShape.jc (i16 : Word) : EncodingShape.Statement (.jc i16) :=
  ⟨rfl, rfl, rfl, show defaultEntry 0x63#8 = _ from rfl⟩
theorem EncodingShape.jnc (i16 : Word) : EncodingShape.Statement (.jnc i16) :=
  ⟨rfl, rfl, rfl, show defaultEntry 0x64#8 = _ from rfl⟩
theorem EncodingShape.jv (i16 : Word) : EncodingShape.Statement (.jv i16) :=
  ⟨rfl, rfl, rfl, show defaultEntry 0x65#8 = _ from rfl⟩
theorem EncodingShape.jnv (i16 : Word) : EncodingShape.Statement (.jnv i16) :=
  ⟨rfl, rfl, rfl, show defaultEntry 0x66#8 = _ from rfl⟩
theorem EncodingShape.call (i16 : Word) : EncodingShape.Statement (.call i16) :=
  ⟨rfl, rfl, rfl, show defaultEntry 0x67#8 = _ from rfl⟩
theorem EncodingShape.ret : EncodingShape.Statement .ret :=
  ⟨rfl, rfl, rfl, rfl⟩
theorem EncodingShape.addAB : EncodingShape.Statement .addAB :=
  ⟨rfl, rfl, rfl, rfl⟩
theorem EncodingShape.addAC : EncodingShape.Statement .addAC :=
  ⟨rfl, rfl, rfl, rfl⟩
theorem EncodingShape.addAD : EncodingShape.Statement .addAD :=
  ⟨rfl, rfl, rfl, rfl⟩
theorem EncodingShape.addBC : EncodingShape.Statement .addBC :=
  ⟨rfl, rfl, rfl, rfl⟩
theorem EncodingShape.addBD : EncodingShape.Statement .addBD :=
  ⟨rfl, rfl, rfl, rfl⟩
theorem EncodingShape.addCD : EncodingShape.Statement .addCD :=
  ⟨rfl, rfl, rfl, rfl⟩
theorem EncodingShape.adcAB : EncodingShape.Statement .adcAB :=
  ⟨rfl, rfl, rfl, rfl⟩
theorem EncodingShape.adcAC : EncodingShape.Statement .adcAC :=
  ⟨rfl, rfl, rfl, rfl⟩
theorem EncodingShape.adcAD : EncodingShape.Statement .adcAD :=
  ⟨rfl, rfl, rfl, rfl⟩
theorem EncodingShape.adcBC : EncodingShape.Statement .adcBC :=
  ⟨rfl, rfl, rfl, rfl⟩
theorem EncodingShape.adcBD : EncodingShape.Statement .adcBD :=
  ⟨rfl, rfl, rfl, rfl⟩
theorem EncodingShape.adcCD : EncodingShape.Statement .adcCD :=
  ⟨rfl, rfl, rfl, rfl⟩
theorem EncodingShape.subAB : EncodingShape.Statement .subAB :=
  ⟨rfl, rfl, rfl, rfl⟩
theorem EncodingShape.subAC : EncodingShape.Statement .subAC :=
  ⟨rfl, rfl, rfl, rfl⟩
theorem EncodingShape.subAD : EncodingShape.Statement .subAD :=
  ⟨rfl, rfl, rfl, rfl⟩
theorem EncodingShape.subBC : EncodingShape.Statement .subBC :=
  ⟨rfl, rfl, rfl, rfl⟩
theorem EncodingShape.subBD : EncodingShape.Statement .subBD :=
  ⟨rfl, rfl, rfl, rfl⟩
theorem EncodingShape.subCD : EncodingShape.Statement .subCD :=
  ⟨rfl, rfl, rfl, rfl⟩
theorem EncodingShape.sbbAB : EncodingShape.Statement .sbbAB :=
  ⟨rfl, rfl, rfl, rfl⟩
theorem EncodingShape.sbbAC : EncodingShape.Statement .sbbAC :=
  ⟨rfl, rfl, rfl, rfl⟩
theorem EncodingShape.sbbAD : EncodingShape.Statement .sbbAD :=
  ⟨rfl, rfl, rfl, rfl⟩
theorem EncodingShape.sbbBC : EncodingShape.Statement .sbbBC :=
  ⟨rfl, rfl, rfl, rfl⟩
theorem EncodingShape.sbbBD : EncodingShape.Statement .sbbBD :=
  ⟨rfl, rfl, rfl, rfl⟩
theorem EncodingShape.sbbCD : EncodingShape.Statement .sbbCD :=
  ⟨rfl, rfl, rfl, rfl⟩
theorem EncodingShape.andAB : EncodingShape.Statement .andAB :=
  ⟨rfl, rfl, rfl, rfl⟩
theorem EncodingShape.andAC : EncodingShape.Statement .andAC :=
  ⟨rfl, rfl, rfl, rfl⟩
theorem EncodingShape.andAD : EncodingShape.Statement .andAD :=
  ⟨rfl, rfl, rfl, rfl⟩
theorem EncodingShape.andBC : EncodingShape.Statement .andBC :=
  ⟨rfl, rfl, rfl, rfl⟩
theorem EncodingShape.andBD : EncodingShape.Statement .andBD :=
  ⟨rfl, rfl, rfl, rfl⟩
theorem EncodingShape.andCD : EncodingShape.Statement .andCD :=
  ⟨rfl, rfl, rfl, rfl⟩
theorem EncodingShape.orAB : EncodingShape.Statement .orAB :=
  ⟨rfl, rfl, rfl, rfl⟩
theorem EncodingShape.orAC : EncodingShape.Statement .orAC :=
  ⟨rfl, rfl, rfl, rfl⟩
theorem EncodingShape.orAD : EncodingShape.Statement .orAD :=
  ⟨rfl, rfl, rfl, rfl⟩
theorem EncodingShape.orBC : EncodingShape.Statement .orBC :=
  ⟨rfl, rfl, rfl, rfl⟩
theorem EncodingShape.orBD : EncodingShape.Statement .orBD :=
  ⟨rfl, rfl, rfl, rfl⟩
theorem EncodingShape.orCD : EncodingShape.Statement .orCD :=
  ⟨rfl, rfl, rfl, rfl⟩
theorem EncodingShape.xorAB : EncodingShape.Statement .xorAB :=
  ⟨rfl, rfl, rfl, rfl⟩
theorem EncodingShape.xorAC : EncodingShape.Statement .xorAC :=
  ⟨rfl, rfl, rfl, rfl⟩
theorem EncodingShape.xorAD : EncodingShape.Statement .xorAD :=
  ⟨rfl, rfl, rfl, rfl⟩
theorem EncodingShape.xorBC : EncodingShape.Statement .xorBC :=
  ⟨rfl, rfl, rfl, rfl⟩
theorem EncodingShape.xorBD : EncodingShape.Statement .xorBD :=
  ⟨rfl, rfl, rfl, rfl⟩
theorem EncodingShape.xorCD : EncodingShape.Statement .xorCD :=
  ⟨rfl, rfl, rfl, rfl⟩
theorem EncodingShape.cmpAB : EncodingShape.Statement .cmpAB :=
  ⟨rfl, rfl, rfl, rfl⟩
theorem EncodingShape.cmpAC : EncodingShape.Statement .cmpAC :=
  ⟨rfl, rfl, rfl, rfl⟩
theorem EncodingShape.cmpAD : EncodingShape.Statement .cmpAD :=
  ⟨rfl, rfl, rfl, rfl⟩
theorem EncodingShape.cmpBC : EncodingShape.Statement .cmpBC :=
  ⟨rfl, rfl, rfl, rfl⟩
theorem EncodingShape.cmpBD : EncodingShape.Statement .cmpBD :=
  ⟨rfl, rfl, rfl, rfl⟩
theorem EncodingShape.cmpCD : EncodingShape.Statement .cmpCD :=
  ⟨rfl, rfl, rfl, rfl⟩
theorem EncodingShape.addAImm (i8 : Byte) : EncodingShape.Statement (.addAImm i8) :=
  ⟨rfl, rfl, rfl, show defaultEntry 0xA0#8 = _ from rfl⟩
theorem EncodingShape.addBImm (i8 : Byte) : EncodingShape.Statement (.addBImm i8) :=
  ⟨rfl, rfl, rfl, show defaultEntry 0xA1#8 = _ from rfl⟩
theorem EncodingShape.addCImm (i8 : Byte) : EncodingShape.Statement (.addCImm i8) :=
  ⟨rfl, rfl, rfl, show defaultEntry 0xA2#8 = _ from rfl⟩
theorem EncodingShape.addDImm (i8 : Byte) : EncodingShape.Statement (.addDImm i8) :=
  ⟨rfl, rfl, rfl, show defaultEntry 0xA3#8 = _ from rfl⟩
theorem EncodingShape.adcAImm (i8 : Byte) : EncodingShape.Statement (.adcAImm i8) :=
  ⟨rfl, rfl, rfl, show defaultEntry 0xA4#8 = _ from rfl⟩
theorem EncodingShape.adcBImm (i8 : Byte) : EncodingShape.Statement (.adcBImm i8) :=
  ⟨rfl, rfl, rfl, show defaultEntry 0xA5#8 = _ from rfl⟩
theorem EncodingShape.adcCImm (i8 : Byte) : EncodingShape.Statement (.adcCImm i8) :=
  ⟨rfl, rfl, rfl, show defaultEntry 0xA6#8 = _ from rfl⟩
theorem EncodingShape.adcDImm (i8 : Byte) : EncodingShape.Statement (.adcDImm i8) :=
  ⟨rfl, rfl, rfl, show defaultEntry 0xA7#8 = _ from rfl⟩
theorem EncodingShape.subAImm (i8 : Byte) : EncodingShape.Statement (.subAImm i8) :=
  ⟨rfl, rfl, rfl, show defaultEntry 0xA8#8 = _ from rfl⟩
theorem EncodingShape.subBImm (i8 : Byte) : EncodingShape.Statement (.subBImm i8) :=
  ⟨rfl, rfl, rfl, show defaultEntry 0xA9#8 = _ from rfl⟩
theorem EncodingShape.subCImm (i8 : Byte) : EncodingShape.Statement (.subCImm i8) :=
  ⟨rfl, rfl, rfl, show defaultEntry 0xAA#8 = _ from rfl⟩
theorem EncodingShape.subDImm (i8 : Byte) : EncodingShape.Statement (.subDImm i8) :=
  ⟨rfl, rfl, rfl, show defaultEntry 0xAB#8 = _ from rfl⟩
theorem EncodingShape.sbbAImm (i8 : Byte) : EncodingShape.Statement (.sbbAImm i8) :=
  ⟨rfl, rfl, rfl, show defaultEntry 0xAC#8 = _ from rfl⟩
theorem EncodingShape.sbbBImm (i8 : Byte) : EncodingShape.Statement (.sbbBImm i8) :=
  ⟨rfl, rfl, rfl, show defaultEntry 0xAD#8 = _ from rfl⟩
theorem EncodingShape.sbbCImm (i8 : Byte) : EncodingShape.Statement (.sbbCImm i8) :=
  ⟨rfl, rfl, rfl, show defaultEntry 0xAE#8 = _ from rfl⟩
theorem EncodingShape.sbbDImm (i8 : Byte) : EncodingShape.Statement (.sbbDImm i8) :=
  ⟨rfl, rfl, rfl, show defaultEntry 0xAF#8 = _ from rfl⟩
theorem EncodingShape.andAImm (i8 : Byte) : EncodingShape.Statement (.andAImm i8) :=
  ⟨rfl, rfl, rfl, show defaultEntry 0xB0#8 = _ from rfl⟩
theorem EncodingShape.andBImm (i8 : Byte) : EncodingShape.Statement (.andBImm i8) :=
  ⟨rfl, rfl, rfl, show defaultEntry 0xB1#8 = _ from rfl⟩
theorem EncodingShape.andCImm (i8 : Byte) : EncodingShape.Statement (.andCImm i8) :=
  ⟨rfl, rfl, rfl, show defaultEntry 0xB2#8 = _ from rfl⟩
theorem EncodingShape.andDImm (i8 : Byte) : EncodingShape.Statement (.andDImm i8) :=
  ⟨rfl, rfl, rfl, show defaultEntry 0xB3#8 = _ from rfl⟩
theorem EncodingShape.orAImm (i8 : Byte) : EncodingShape.Statement (.orAImm i8) :=
  ⟨rfl, rfl, rfl, show defaultEntry 0xB4#8 = _ from rfl⟩
theorem EncodingShape.orBImm (i8 : Byte) : EncodingShape.Statement (.orBImm i8) :=
  ⟨rfl, rfl, rfl, show defaultEntry 0xB5#8 = _ from rfl⟩
theorem EncodingShape.orCImm (i8 : Byte) : EncodingShape.Statement (.orCImm i8) :=
  ⟨rfl, rfl, rfl, show defaultEntry 0xB6#8 = _ from rfl⟩
theorem EncodingShape.orDImm (i8 : Byte) : EncodingShape.Statement (.orDImm i8) :=
  ⟨rfl, rfl, rfl, show defaultEntry 0xB7#8 = _ from rfl⟩
theorem EncodingShape.xorAImm (i8 : Byte) : EncodingShape.Statement (.xorAImm i8) :=
  ⟨rfl, rfl, rfl, show defaultEntry 0xB8#8 = _ from rfl⟩
theorem EncodingShape.xorBImm (i8 : Byte) : EncodingShape.Statement (.xorBImm i8) :=
  ⟨rfl, rfl, rfl, show defaultEntry 0xB9#8 = _ from rfl⟩
theorem EncodingShape.xorCImm (i8 : Byte) : EncodingShape.Statement (.xorCImm i8) :=
  ⟨rfl, rfl, rfl, show defaultEntry 0xBA#8 = _ from rfl⟩
theorem EncodingShape.xorDImm (i8 : Byte) : EncodingShape.Statement (.xorDImm i8) :=
  ⟨rfl, rfl, rfl, show defaultEntry 0xBB#8 = _ from rfl⟩
theorem EncodingShape.cmpAImm (i8 : Byte) : EncodingShape.Statement (.cmpAImm i8) :=
  ⟨rfl, rfl, rfl, show defaultEntry 0xBC#8 = _ from rfl⟩
theorem EncodingShape.cmpBImm (i8 : Byte) : EncodingShape.Statement (.cmpBImm i8) :=
  ⟨rfl, rfl, rfl, show defaultEntry 0xBD#8 = _ from rfl⟩
theorem EncodingShape.cmpCImm (i8 : Byte) : EncodingShape.Statement (.cmpCImm i8) :=
  ⟨rfl, rfl, rfl, show defaultEntry 0xBE#8 = _ from rfl⟩
theorem EncodingShape.cmpDImm (i8 : Byte) : EncodingShape.Statement (.cmpDImm i8) :=
  ⟨rfl, rfl, rfl, show defaultEntry 0xBF#8 = _ from rfl⟩
theorem EncodingShape.notA : EncodingShape.Statement .notA :=
  ⟨rfl, rfl, rfl, rfl⟩
theorem EncodingShape.notB : EncodingShape.Statement .notB :=
  ⟨rfl, rfl, rfl, rfl⟩
theorem EncodingShape.notC : EncodingShape.Statement .notC :=
  ⟨rfl, rfl, rfl, rfl⟩
theorem EncodingShape.notD : EncodingShape.Statement .notD :=
  ⟨rfl, rfl, rfl, rfl⟩
theorem EncodingShape.shlA : EncodingShape.Statement .shlA :=
  ⟨rfl, rfl, rfl, rfl⟩
theorem EncodingShape.shlB : EncodingShape.Statement .shlB :=
  ⟨rfl, rfl, rfl, rfl⟩
theorem EncodingShape.shlC : EncodingShape.Statement .shlC :=
  ⟨rfl, rfl, rfl, rfl⟩
theorem EncodingShape.shlD : EncodingShape.Statement .shlD :=
  ⟨rfl, rfl, rfl, rfl⟩
theorem EncodingShape.shrA : EncodingShape.Statement .shrA :=
  ⟨rfl, rfl, rfl, rfl⟩
theorem EncodingShape.shrB : EncodingShape.Statement .shrB :=
  ⟨rfl, rfl, rfl, rfl⟩
theorem EncodingShape.shrC : EncodingShape.Statement .shrC :=
  ⟨rfl, rfl, rfl, rfl⟩
theorem EncodingShape.shrD : EncodingShape.Statement .shrD :=
  ⟨rfl, rfl, rfl, rfl⟩
theorem EncodingShape.clrA : EncodingShape.Statement .clrA :=
  ⟨rfl, rfl, rfl, rfl⟩
theorem EncodingShape.clrB : EncodingShape.Statement .clrB :=
  ⟨rfl, rfl, rfl, rfl⟩
theorem EncodingShape.clrC : EncodingShape.Statement .clrC :=
  ⟨rfl, rfl, rfl, rfl⟩
theorem EncodingShape.clrD : EncodingShape.Statement .clrD :=
  ⟨rfl, rfl, rfl, rfl⟩
theorem EncodingShape.incA : EncodingShape.Statement .incA :=
  ⟨rfl, rfl, rfl, rfl⟩
theorem EncodingShape.incB : EncodingShape.Statement .incB :=
  ⟨rfl, rfl, rfl, rfl⟩
theorem EncodingShape.incC : EncodingShape.Statement .incC :=
  ⟨rfl, rfl, rfl, rfl⟩
theorem EncodingShape.incD : EncodingShape.Statement .incD :=
  ⟨rfl, rfl, rfl, rfl⟩
theorem EncodingShape.decA : EncodingShape.Statement .decA :=
  ⟨rfl, rfl, rfl, rfl⟩
theorem EncodingShape.decB : EncodingShape.Statement .decB :=
  ⟨rfl, rfl, rfl, rfl⟩
theorem EncodingShape.decC : EncodingShape.Statement .decC :=
  ⟨rfl, rfl, rfl, rfl⟩
theorem EncodingShape.decD : EncodingShape.Statement .decD :=
  ⟨rfl, rfl, rfl, rfl⟩
theorem EncodingShape.inA0 : EncodingShape.Statement .inA0 :=
  ⟨rfl, rfl, rfl, rfl⟩
theorem EncodingShape.inA1 : EncodingShape.Statement .inA1 :=
  ⟨rfl, rfl, rfl, rfl⟩
theorem EncodingShape.inB0 : EncodingShape.Statement .inB0 :=
  ⟨rfl, rfl, rfl, rfl⟩
theorem EncodingShape.inB1 : EncodingShape.Statement .inB1 :=
  ⟨rfl, rfl, rfl, rfl⟩
theorem EncodingShape.inC0 : EncodingShape.Statement .inC0 :=
  ⟨rfl, rfl, rfl, rfl⟩
theorem EncodingShape.inC1 : EncodingShape.Statement .inC1 :=
  ⟨rfl, rfl, rfl, rfl⟩
theorem EncodingShape.inD0 : EncodingShape.Statement .inD0 :=
  ⟨rfl, rfl, rfl, rfl⟩
theorem EncodingShape.inD1 : EncodingShape.Statement .inD1 :=
  ⟨rfl, rfl, rfl, rfl⟩
theorem EncodingShape.out0A : EncodingShape.Statement .out0A :=
  ⟨rfl, rfl, rfl, rfl⟩
theorem EncodingShape.out1A : EncodingShape.Statement .out1A :=
  ⟨rfl, rfl, rfl, rfl⟩
theorem EncodingShape.out0B : EncodingShape.Statement .out0B :=
  ⟨rfl, rfl, rfl, rfl⟩
theorem EncodingShape.out1B : EncodingShape.Statement .out1B :=
  ⟨rfl, rfl, rfl, rfl⟩
theorem EncodingShape.out0C : EncodingShape.Statement .out0C :=
  ⟨rfl, rfl, rfl, rfl⟩
theorem EncodingShape.out1C : EncodingShape.Statement .out1C :=
  ⟨rfl, rfl, rfl, rfl⟩
theorem EncodingShape.out0D : EncodingShape.Statement .out0D :=
  ⟨rfl, rfl, rfl, rfl⟩
theorem EncodingShape.out1D : EncodingShape.Statement .out1D :=
  ⟨rfl, rfl, rfl, rfl⟩
theorem EncodingShape.hlt : EncodingShape.Statement .hlt :=
  ⟨rfl, rfl, rfl, rfl⟩

end Sys2Proof.Laws
end

