-- ==== Sys2Proof/Laws/Sequence.lean ====
section
/-! SUPPORT. The sequencer: the opcode fetch in closed form, the operand fetches of each mode, and that a run of cycles is
steady. -/

namespace Sys2Proof.Machine

open Sys2Proof

@[simp] theorem runCycles_nil (e : Entry) (k : Nat) (s : State) : runCycles e [] k s = .next (retire e s) := rfl

theorem runCycles_cons (e : Entry) (st : Step) (b : Option Byte) (rest : List (Step × Option Byte)) (k : Nat) (s : State) :
    runCycles e ((st, b) :: rest) k s =
      andThen (cycle st (suppressed e rest.isEmpty s.flags) b s) fun t =>
        runCycles e rest (k + 1) { t with control := .running e (k + 1) } := rfl

/-- An entry without a condition suppresses nothing. -/
theorem suppressed_plain {e : Entry} (h : e.cond = none) (last : Bool) (f : Flags) : suppressed e last f = false := by
  simp [suppressed, h]

/-- Only the last step can be suppressed. -/
@[simp] theorem suppressed_inner (e : Entry) (f : Flags) : suppressed e false f = false := by
  cases h : e.cond <;> simp [suppressed, h]

/-- The registers after the opcode fetch (42_controller.md R226). -/
def fetchedRegs (op : Byte) (g : Regs) : Regs := { g with ir := op, pc := g.pc + 1, memaddr := g.pc }

/-- The opcode fetch of a known opcode byte completes; registers as R226 says, and flags, memory, channels, lines, table and
counter as before. -/
theorem fetchOpcode_stream (op : Byte) (s : State) :
    ∃ t, fetchOpcode (some op) s = .next t ∧ t.regs = fetchedRegs op s.regs ∧ t.flags = s.flags ∧ t.mem = s.mem ∧
      t.io = s.io ∧ t.lines = s.lines ∧ t.table = s.table ∧ t.count = s.count := by
  refine ⟨_, rfl, ?_, rfl, rfl, rfl, rfl, rfl, rfl⟩
  simp [fetchStep1, State.driveWord, State.driveData, State.setWord, Regs.getWord, Regs.setWord, Regs.setByte,
    fetchedRegs, programBus, State.latchWord]
  trivial

/-! ### A run of cycles is steady -/

theorem runCycles_steady (e : Entry) (cs : List (Step × Option Byte)) (k : Nat) (s : State) :
    SteadyOut s (runCycles e cs k s) := by
  induction cs generalizing k s with
  | nil => exact .of_eq rfl rfl rfl rfl
  | cons c rest ih =>
    rcases c with ⟨st, b⟩
    exact (cycle_steady _ _ _ _).andThen fun t => by
      have h := ih (k + 1) { t with control := .running e (k + 1) }
      have h0 : Steady t { t with control := .running e (k + 1) } := .of_eq rfl rfl rfl rfl
      cases ho : runCycles e rest (k + 1) { t with control := .running e (k + 1) } with
      | next u => rw [ho] at h; exact h0.trans h
      | fault f => rw [ho] at h; exact h0.trans h
      | refused r => trivial

/-- Setting the controller before a steady run changes nothing of it. -/
theorem SteadyOut.withControl {s : State} {c : Control} {o : Out} (h : SteadyOut { s with control := c } o) :
    SteadyOut s o := by
  have h0 : Steady s { s with control := c } := .of_eq rfl rfl rfl rfl
  cases o with
  | next t => exact h0.trans h
  | fault e => exact h0.trans h
  | refused r => trivial

theorem runBody_steady (e : Entry) (bytes : List Byte) (s : State) : SteadyOut s (runBody e bytes s) :=
  (runCycles_steady _ _ _ _).withControl

theorem fetchOpcode_steady (b : Option Byte) (s : State) : SteadyOut s (fetchOpcode b s) :=
  (cycle_steady _ _ _ _).andThen fun _ => (cycle_steady _ _ _ _).withControl

/-- The run of any entry, whatever its outcome, is steady. -/
theorem runEntry_steady (e : Entry) (bytes : List Byte) (s : State) : SteadyOut s (runEntry e bytes s) :=
  ((fetchOpcode_steady _ _).andThen fun t => runBody_steady e bytes.tail t).takeError

theorem decodeOpcode_steady {k : Entry → State → Out} (hk : ∀ e s, SteadyOut s (k e s)) (s : State) :
    SteadyOut s (decodeOpcode k s) := by
  simp only [decodeOpcode]
  split
  · exact .refl s
  · split
    · exact hk _ s
    · exact .refl s

theorem finishInstruction_steady (s : State) : SteadyOut s (finishInstruction s) := by
  simp only [finishInstruction]
  split
  · exact ((fetchOpcode_steady _ _).andThen (decodeOpcode_steady fun e t => runBody_steady e [] t)).takeError
  · exact ((cycle_steady _ _ _ _).andThen (decodeOpcode_steady fun e t => runBody_steady e [] t)).takeError
  · exact (runCycles_steady _ _ _ _).takeError

/-- Every meaning is the run of its instruction's entry on its own bytes. -/
theorem exec_eq_runEntry (i : Instr) (s : State) : exec i s = runEntry (microcode i) (encode i) s := by
  cases i <;> rfl

end Sys2Proof.Machine
end

