-- ==== Sys2Proof/Laws/Quiet.lean ====
section
/-! SUPPORT. What a cycle does not do: it leaves the controller and the counter, tells the host of no retired instruction,
changes the flags only in an ALU or flags-import step, and reads a fetched byte as it would read memory. -/

namespace Sys2Proof.Machine

open Sys2Proof

/-- The controller and the counter are as before, and no instruction was reported retired in between. -/
structure Quiet (s t : State) : Prop where
  control : t.control = s.control
  count : t.count = s.count
  told : ∃ told, t.events = told ++ s.events ∧ ∀ m, .retired m ∉ told

theorem Quiet.of_events {s t : State} (h1 : t.control = s.control) (h2 : t.count = s.count) (e : List Event)
    (h3 : t.events = e ++ s.events) (h4 : ∀ m, .retired m ∉ e) : Quiet s t :=
  ⟨h1, h2, e, h3, h4⟩

theorem Quiet.same {s t : State} (h1 : t.control = s.control) (h2 : t.count = s.count) (h3 : t.events = s.events) :
    Quiet s t := .of_events h1 h2 [] h3 (by simp)

theorem Quiet.refl (s : State) : Quiet s s := .of_events rfl rfl [] rfl (by simp)

theorem Quiet.trans {s t u : State} (h : Quiet s t) (k : Quiet t u) : Quiet s u := by
  obtain ⟨a, ha, ha'⟩ := h.told
  obtain ⟨b, hb, hb'⟩ := k.told
  refine .of_events (k.control.trans h.control) (k.count.trans h.count) (b ++ a) (by rw [hb, ha, List.append_assoc]) ?_
  intro m hm
  rcases List.mem_append.1 hm with hm | hm
  · exact hb' m hm
  · exact ha' m hm

/-- The state an outcome has, if any, is quiet. -/
def QuietOut (s : State) : Out → Prop
  | .next t => Quiet s t
  | .fault e => Quiet s e.left
  | .refused _ => True

theorem QuietOut.andThen {s : State} {o : Out} {f : State → Out} (h : QuietOut s o)
    (k : ∀ t, QuietOut t (f t)) : QuietOut s (Machine.andThen o f) := by
  cases o with
  | next t =>
    have hk := k t
    show QuietOut s (f t)
    cases hf : f t with
    | next u => rw [hf] at hk; exact h.trans hk
    | fault e => rw [hf] at hk; exact h.trans hk
    | refused r => trivial
  | fault e => exact h
  | refused r => trivial

theorem risingEdge_quiet (st : Step) (b : Option Byte) (s : State) : QuietOut s (risingEdge st b s) := by
  have hm : ∀ f, QuietOut s (driveMem f b s) := fun f => by
    simp only [driveMem]; split <;> exact .same rfl rfl rfl
  have hd : ∀ c, QuietOut s (driveByteSide st c s) := fun c => by
    have hm : ∀ f, QuietOut s (driveMem f c s) := fun f => by
      simp only [driveMem]; split <;> exact .same rfl rfl rfl
    simp only [driveByteSide]
    split <;> first | exact hm _ | exact .same rfl rfl rfl
  simp only [risingEdge]
  split
  · exact hd b
  · simp only [driveWordSide]
    split <;> exact .same rfl rfl rfl
  · split
    · simp only [channelInput]
      split
      · split
        · trivial
        · exact .of_events rfl rfl [_] rfl (by simp)
      · exact .same rfl rfl rfl
    · exact hd none
  · exact .same rfl rfl rfl

theorem highClock_quiet (st : Step) (s : State) : QuietOut s (highClock st s) := by
  have ha : ∀ op, QuietOut s (aluOperate op s) := fun op => by
    simp only [aluOperate]
    split
    · split
      · exact .of_events rfl rfl [] rfl (by simp)
      · exact .of_events rfl rfl [_] rfl (by simp)
    · exact .same rfl rfl rfl
  have hm : ∀ f, QuietOut s (latchMem f s) := fun f => by
    simp only [latchMem]
    split <;> exact .same rfl rfl rfl
  have hl : QuietOut s (latchByteSide st s) := by
    simp only [latchByteSide]
    split
    · exact .of_events rfl rfl [_] rfl (by simp)
    · exact .of_events rfl rfl [_] rfl (by simp)
    · exact hm _
    · split
      · exact ha _
      · exact .same rfl rfl rfl
    · exact .same rfl rfl rfl
  simp only [highClock]
  split
  · exact hl
  · simp only [latchWordSide]
    split
    · exact .of_events rfl rfl [_] rfl (by simp)
    · exact .of_events rfl rfl [_] rfl (by simp)
    · exact .of_events rfl rfl [] rfl (by simp)
    · exact .same rfl rfl rfl
    · exact .same rfl rfl rfl
  · split
    · exact hl
    · simp only [channelOutput]
      split
      · exact .of_events rfl rfl [_] rfl (by simp)
      · exact .same rfl rfl rfl
  · split <;> exact .same rfl rfl rfl

/-- Any cycle, whatever its outcome, is quiet. -/
theorem cycle_quiet (st : Step) (sup : Bool) (b : Option Byte) (s : State) : QuietOut s (cycle st sup b s) := by
  have h : Quiet s (programBus (effectiveStep st sup) s) := .same rfl rfl rfl
  have h2 := QuietOut.andThen (risingEdge_quiet (effectiveStep st sup) b (programBus (effectiveStep st sup) s))
    (highClock_quiet (effectiveStep st sup))
  simp only [cycle]
  cases ho : andThen (risingEdge (effectiveStep st sup) b (programBus (effectiveStep st sup) s))
      (highClock (effectiveStep st sup)) with
  | next t => rw [ho] at h2; exact h.trans h2
  | fault e => rw [ho] at h2; exact h.trans h2
  | refused r => trivial

/-- A cycle that completes changes the flags only if it is an ALU operation or a flags import (10_state.md R30). -/
theorem cycle_flags {st : Step} {sup : Bool} {b : Option Byte} {s t : State} (h : cycle st sup b s = .next t)
    (hp : st.put ≠ .alu) : t.flags = s.flags := by
  have hr : ∀ {b : Option Byte} (st : Step) (s t : State), risingEdge st b s = .next t → t.flags = s.flags := by
    have hm : ∀ (f : OpFlags) (b : Option Byte) (s t : State), driveMem f b s = .next t → t.flags = s.flags := by
      intro f b s t h
      simp only [driveMem] at h
      split at h
      · cases h; rfl
      · cases h
    have hd : ∀ (st : Step) (b : Option Byte) (s t : State), driveByteSide st b s = .next t → t.flags = s.flags := by
      intro st b s t h
      simp only [driveByteSide] at h
      split at h
      · cases h; rfl
      · cases h; rfl
      · exact hm _ _ _ _ h
      · cases h
      · cases h
    intro b st s t h
    simp only [risingEdge] at h
    split at h
    · exact hd _ _ _ _ h
    · simp only [driveWordSide] at h
      split at h <;> cases h <;> rfl
    · split at h
      · simp only [channelInput] at h
        split at h
        · split at h
          · cases h
          · cases h; rfl
        · cases h
      · exact hd _ _ _ _ h
    · cases h; rfl
  have hh : ∀ (st : Step) (s t : State), st.put ≠ .alu → highClock st s = .next t → t.flags = s.flags := by
    have hl : ∀ (st : Step) (s t : State), st.put ≠ .alu → latchByteSide st s = .next t → t.flags = s.flags := by
      intro st s t hp h
      simp only [latchByteSide] at h
      split at h
      · cases h; rfl
      · cases h; rfl
      · simp only [latchMem] at h
        split at h
        · cases h; rfl
        · cases h
      · exact absurd ‹_› hp
      · cases h
    intro st s t hp h
    simp only [highClock] at h
    split at h
    · exact hl _ _ _ hp h
    · simp only [latchWordSide] at h
      split at h
      · cases h; rfl
      · cases h; rfl
      · exact absurd ‹_› hp
      · cases h
      · cases h
    · split at h
      · exact hl _ _ _ hp h
      · simp only [channelOutput] at h
        split at h
        · cases h; rfl
        · cases h
    · cases h; split <;> rfl
  simp only [cycle] at h
  obtain ⟨u, hu, ht⟩ := andThen_eq_next.1 h
  have hp' : (effectiveStep st sup).put ≠ .alu := by
    simp only [effectiveStep]; split
    · simp
    · exact hp
  have h1 : u.flags = (programBus (effectiveStep st sup) s).flags := hr _ _ _ hu
  exact (hh _ _ _ hp' ht).trans h1

/-- A read of the instruction stream does the same whether the byte was read before or is read now, if memory holds it at the
cursor (log 11). -/
theorem cycle_fetched {st : Step} (sup : Bool) {v : Byte} {s : State} (h : s.mem.readByte s.regs.memaddr.toNat = some v) :
    cycle st sup (some v) s = cycle st sup none s := by
  have hm : ∀ f, driveMem f (some v) (programBus (effectiveStep st sup) s) =
      driveMem f none (programBus (effectiveStep st sup) s) := by
    intro f
    simp [driveMem, programBus, h]
  simp only [cycle]
  congr 1
  simp only [risingEdge, driveByteSide, hm]

end Sys2Proof.Machine
end

