-- ==== Sys2Proof/Tests/Slice0.lean ====
section
/-! SUPPORT. Tests: ill-formed steps and entries are refused by the check that names them; words written out from the spec's
encodings decode to their instructions; one-step vectors of 95_test_vectors.md; and for each obligation with hypotheses a
concrete case that meets them, at the boundary of each clause. Expected values are the spec's. -/

namespace Sys2Proof.Tests

open Sys2Proof Sys2Proof.Machine

/-! ### Helpers -/

/-- A state with bytes at address 0, more cells, registers and flags, in the memory of 95_test_vectors.md (one writable bank
over the whole space). -/
def machine (bytes : List Byte) (cells : List (Nat × Byte) := []) (g : Regs := Regs.reset) (f : Flags := Flags.reset) :
    State :=
  { State.reset with
    regs := g
    flags := f
    mem := { Memory.wholeSpace with cells := cells.foldl (fun c p => storeCell c p.1 p.2) (storeBytes [] 0 bytes) } }

/-- The same with other banks. -/
def onBanks (banks : List Bank) (s : State) : State := { s with mem := { s.mem with banks := banks } }

/-- The same with channel 0 an input holding bytes and channel 1 an output. -/
def withChannels (bytes : List Byte) (s : State) : State :=
  { s with io := { s.io with channels := (s.io.channels.set 0 (some .input)).set 1 (some .output)
                             input := s.io.input.set 0 bytes } }

/-- The outcome is a next state with the property. -/
def goes (o : Out) (p : State → Bool) : Bool :=
  match o with
  | .next t => p t
  | _ => false

/-- The outcome is a fault with the code, and the state left has the property. -/
def stops (o : Out) (e : ErrorCode) (p : State → Bool) : Bool :=
  match o with
  | .fault f => f.code == e && p f.left
  | _ => false

/-- The host operation returned NoError, and the state after it has the property. -/
def accepted (r : HostResult) (p : State → Bool) : Bool :=
  match r with
  | .done .noError t => p t
  | _ => false

/-- The byte an address reads. -/
def at_ (s : State) (a : Nat) : Option Byte := s.mem.readByte a

/-- Flags written Z, C, V. -/
def zcv (z c v : Bool) : Flags := { z := z, c := c, v := v }

/-! ### Well-formedness (30_encoding.md R105, R106) -/

theorem test_wf_other_refuses : Step.wfOther ({ kind := .other, get := .byte .a, put := .none, opflags := 0, done := false }) = false ∧ Step.wellFormed ({ kind := .other, get := .byte .a, put := .none, opflags := 0, done := false }) = false := by decide

theorem test_wf_other_flags_refuses : Step.wfOther ({ kind := .other, get := .none, put := .none, opflags := 0x2, done := false }) = false ∧ Step.wellFormed ({ kind := .other, get := .none, put := .none, opflags := 0x2, done := false }) = false := by decide

theorem test_wf_ends_refuses : Step.wfEnds (.xdata (.byte .a) (.byte .a)) = false ∧ Step.wellFormed (.xdata (.byte .a) (.byte .a)) = false := by decide

theorem test_wf_xdata_get_refuses : Step.wfXdataGet (.xdata .alu (.byte .a)) = false ∧ Step.wellFormed (.xdata .alu (.byte .a)) = false := by decide

theorem test_wf_xdata_put_refuses : Step.wfXdataPut (.xdata (.byte .a) .none) = false ∧ Step.wellFormed (.xdata (.byte .a) .none) = false := by decide

theorem test_wf_alu_op_refuses : Step.wfAluOp (.xdata (.byte .a) .alu 0xE) = false ∧ Step.wellFormed (.xdata (.byte .a) .alu 0xE) = false := by decide

theorem test_wf_adjust_both_refuses : Step.wfAdjust (.xdata .mem (.addr .tx) (OpFlags.inc ||| OpFlags.dec)) = false ∧ Step.wellFormed (.xdata .mem (.addr .tx) (OpFlags.inc ||| OpFlags.dec)) = false := by decide

theorem test_wf_adjust_idx_refuses : Step.wfAdjust (.xdata .mem (.byte .a) OpFlags.idx) = false ∧ Step.wellFormed (.xdata .mem (.byte .a) OpFlags.idx) = false := by decide

theorem test_wf_adjust_msb_refuses : Step.wfAdjust (.xdata .mem (.byte .a) OpFlags.msb) = false ∧ Step.wellFormed (.xdata .mem (.byte .a) OpFlags.msb) = false := by decide

theorem test_wf_adjust_none_refuses : Step.wfAdjust (.xdata (.byte .a) (.byte .b) OpFlags.inc) = false ∧ Step.wellFormed (.xdata (.byte .a) (.byte .b) OpFlags.inc) = false := by decide

theorem test_wf_xaddr_regs_refuses : Step.wfXaddrRegs (.xaddr (.byte .a) (.addr .sp)) = false ∧ Step.wellFormed (.xaddr (.byte .a) (.addr .sp)) = false := by decide

theorem test_wf_xaddr_flags_refuses : Step.wfXaddrFlags (.xaddr .alu (.addr .tx) 0) = false ∧ Step.wellFormed (.xaddr .alu (.addr .tx) 0) = false := by decide

theorem test_wf_io_refuses : Step.wfIo ({ kind := .io, get := .ofCode 0, put := .alu, opflags := OpFlags.ioIn, done := false }) = false ∧ Step.wellFormed ({ kind := .io, get := .ofCode 0, put := .alu, opflags := OpFlags.ioIn, done := false }) = false := by decide

theorem test_ew_done_refuses : Entry.ewDone (plainEntry "X" .implied none [.xdata (.byte .a) (.byte .b)]) = false ∧ Entry.wellFormed (plainEntry "X" .implied none [.xdata (.byte .a) (.byte .b)]) = false := by decide

theorem test_ew_done_early_refuses : Entry.ewDone (plainEntry "X" .implied none [(Step.xdata (.byte .a) (.byte .b)).fin, (Step.xdata (.byte .b) (.byte .c)).fin]) = false ∧ Entry.wellFormed (plainEntry "X" .implied none [(Step.xdata (.byte .a) (.byte .b)).fin, (Step.xdata (.byte .b) (.byte .c)).fin]) = false := by decide

theorem test_ew_subject_refuses : Entry.ewSubject (plainEntry "X" .immediateWord (some (.byte .a)) []) = false ∧ Entry.wellFormed (plainEntry "X" .immediateWord (some (.byte .a)) []) = false := by decide

theorem test_ew_subject_implied_refuses : Entry.ewSubject (plainEntry "X" .implied (some (.byte .a)) []) = false ∧ Entry.wellFormed (plainEntry "X" .implied (some (.byte .a)) []) = false := by decide

theorem test_ew_pc_subject_refuses : Entry.ewPcSubject (plainEntry "X" .indirectWord (some (.addr .pc)) []) = false ∧ Entry.wellFormed (plainEntry "X" .indirectWord (some (.addr .pc)) []) = false := by decide

theorem test_ew_steps_required_refuses : Entry.ewStepsRequired (plainEntry "X" .indexedByte (some (.addr .bp)) []) = false ∧ Entry.wellFormed (plainEntry "X" .indexedByte (some (.addr .bp)) []) = false := by decide

theorem test_ew_cond_refuses : Entry.ewCond ({ jumpCond "X" 0x08 .and with cond := some { mask := 0x08, op := .and } }) = false ∧ Entry.wellFormed ({ jumpCond "X" 0x08 .and with cond := some { mask := 0x08, op := .and } }) = false := by decide

theorem test_ew_cond_last_refuses : Entry.ewCond ({ copy8 "X" .a .b with cond := some { mask := 0x01, op := .and } }) = false ∧ Entry.wellFormed ({ copy8 "X" .a .b with cond := some { mask := 0x01, op := .and } }) = false := by decide

theorem test_ew_msb_refuses : Entry.ewMsb ({ loadImm8 "X" .a with msbFirst := true }) = false ∧ Entry.wellFormed ({ loadImm8 "X" .a with msbFirst := true }) = false := by decide

theorem test_wf_accepts_pop_word : (pop16 "POP BP" .bp).wellFormed = true := by decide

/-! ### Decoding words written from 30_encoding.md R120, R121 -/

theorem test_decode_nop : decode [0x00] = .ok (.nop, []) := by decide

theorem test_decode_mov_d_imm : decode [0x04, 0x7F] = .ok (.movDImm 0x7F, []) := by decide

theorem test_decode_mov_c_abs : decode [0x07, 0x34, 0x12] = .ok (.movCMem 0x1234, []) := by decide

theorem test_decode_mov_abs_d : decode [0x0C, 0x00, 0x80] = .ok (.movMemD 0x8000, []) := by decide

theorem test_decode_mov_b_d : decode [0x12] = .ok (.movBD, []) := by decide

theorem test_decode_mov_d_c : decode [0x18] = .ok (.movDC, []) := by decide

theorem test_decode_mov_di_imm : decode [0x1C, 0xFE, 0xCA] = .ok (.movDiImm 0xCAFE, []) := by decide

theorem test_decode_mov_bp_abs : decode [0x1E, 0x00, 0x04] = .ok (.movBpMem 0x0400, []) := by decide

theorem test_decode_mov_abs_si : decode [0x23, 0x01, 0x00] = .ok (.movMemSi 0x0001, []) := by decide

theorem test_decode_mov_bp_di : decode [0x2A] = .ok (.movBpDi, []) := by decide

theorem test_decode_mov_di_si : decode [0x30] = .ok (.movDiSi, []) := by decide

theorem test_decode_mov_d_di_idx : decode [0x3C, 0x80] = .ok (.movDDiIdx 0x80, []) := by decide

theorem test_decode_mov_si_idx_c : decode [0x44, 0x05] = .ok (.movSiIdxC 0x05, []) := by decide

theorem test_decode_mov_di_bp_idx : decode [0x4A, 0xFF] = .ok (.movDiBpIdx 0xFF, []) := by decide

theorem test_decode_mov_bp_idx_si : decode [0x4B, 0x02] = .ok (.movBpIdxSi 0x02, []) := by decide

theorem test_decode_push_c : decode [0x52] = .ok (.pushC, []) := by decide

theorem test_decode_pop_b : decode [0x55] = .ok (.popB, []) := by decide

theorem test_decode_push_si : decode [0x59] = .ok (.pushSi, []) := by decide

theorem test_decode_pop_di : decode [0x5D] = .ok (.popDi, []) := by decide

theorem test_decode_popf : decode [0x5F] = .ok (.popf, []) := by decide

theorem test_decode_jmp : decode [0x60, 0xCD, 0xAB] = .ok (.jmp 0xABCD, []) := by decide

theorem test_decode_jnv : decode [0x66, 0x01, 0x02] = .ok (.jnv 0x0201, []) := by decide

theorem test_decode_ret : decode [0x68] = .ok (.ret, []) := by decide

theorem test_decode_adc_b_d : decode [0x7A] = .ok (.adcBD, []) := by decide

theorem test_decode_cmp_c_d : decode [0x9F] = .ok (.cmpCD, []) := by decide

theorem test_decode_sbb_c_imm : decode [0xAE, 0x10] = .ok (.sbbCImm 0x10, []) := by decide

theorem test_decode_xor_d_imm : decode [0xBB, 0x0F] = .ok (.xorDImm 0x0F, []) := by decide

theorem test_decode_not_b : decode [0xC1] = .ok (.notB, []) := by decide

theorem test_decode_shr_a : decode [0xC8] = .ok (.shrA, []) := by decide

theorem test_decode_dec_d : decode [0xD7] = .ok (.decD, []) := by decide

theorem test_decode_in_c_1 : decode [0xE5] = .ok (.inC1, []) := by decide

theorem test_decode_out_0_d : decode [0xEE] = .ok (.out0D, []) := by decide

theorem test_decode_hlt : decode [0xFF] = .ok (.hlt, []) := by decide

theorem test_decode_refuses_unassigned : decode [0x4D, 0x00] = .error (.unassigned 0x4D) := by decide

theorem test_decode_refuses_truncated : decode [0x60, 0x00] = .error (.truncated 0x60) := by decide

/-- The assigned and unassigned opcodes where their ranges meet (R94). -/
theorem test_unassigned_boundaries :
    (∀ op ∈ [0x4D#8, 0x4F#8, 0x69#8, 0x6F#8, 0xD8#8, 0xDF#8, 0xF0#8, 0xFE#8], defaultEntry op = none) ∧
      ∀ op ∈ [0x4C#8, 0x50#8, 0x68#8, 0x70#8, 0xD7#8, 0xE0#8, 0xEF#8, 0xFF#8], (defaultEntry op).isSome = true := by
  decide

/-! ### One-step vectors of 95_test_vectors.md -/

theorem test_v20_nop :
    goes (step (machine [0x00] [] Regs.reset Flags.reset))
      (fun t => t.regs.pc == 0x0001 && t.regs.memaddr == 0x0000 && t.count == 2) = true := by decide

theorem test_v40_mov_imm :
    goes (step (machine [0x01, 0x1F] [] Regs.reset Flags.reset))
      (fun t => t.regs.a == 0x1F && t.regs.memaddr == 0x0001 && t.count == 4) = true := by decide

theorem test_v41_mov_load :
    goes (step (machine [0x06, 0x34, 0x12] [(0x1234, 0x5A)] Regs.reset Flags.reset))
      (fun t => t.regs.b == 0x5A && t.regs.tx == 0x1234 && t.regs.memaddr == 0x1234 && t.regs.pc == 0x0003 && t.count == 8) = true := by decide

theorem test_v42_mov_store :
    goes (step (machine [0x0B, 0x00, 0x03] [] { Regs.reset with c := 0x77 } Flags.reset))
      (fun t => t.regs.tx == 0x0300 && at_ t 0x0300 == some 0x77) = true := by decide

theorem test_v43_mov_copy :
    goes (step (machine [0x0D] [] { Regs.reset with b := 0x42 } Flags.reset))
      (fun t => t.regs.a == 0x42 && t.regs.pc == 0x0001) = true := by decide

theorem test_v44_mov_word_imm :
    goes (step (machine [0x19, 0x00, 0x20] [] Regs.reset Flags.reset))
      (fun t => t.regs.sp == 0x2000 && t.regs.memaddr == 0x0003) = true := by decide

theorem test_v45_mov_word_load :
    goes (step (machine [0x1F, 0x00, 0x04] [(0x0400, 0x34), (0x0401, 0x12)] Regs.reset Flags.reset))
      (fun t => t.regs.si == 0x1234 && t.regs.memaddr == 0x0401 && t.count == 9) = true := by decide

theorem test_v46_mov_word_copy :
    goes (step (machine [0x28] [] { Regs.reset with sp := 0x1FF0 } Flags.reset))
      (fun t => t.regs.bp == 0x1FF0) = true := by decide

theorem test_v47_mov_index_negative :
    goes (step (machine [0x31, 0xFF] [(0x1FFF, 0x99)] { Regs.reset with bp := 0x2000 } Flags.reset))
      (fun t => t.regs.a == 0x99 && t.regs.tx == 0x00FF && t.regs.memaddr == 0x1FFF) = true := by decide

theorem test_v48_mov_index_positive :
    goes (step (machine [0x35, 0x7F] [(0x207F, 0x11)] { Regs.reset with si := 0x2000 } Flags.reset))
      (fun t => t.regs.b == 0x11 && t.regs.memaddr == 0x207F) = true := by decide

theorem test_v49_mov_word_store :
    goes (step (machine [0x24, 0x00, 0x05] [] { Regs.reset with di := 0xBEEF } Flags.reset))
      (fun t => at_ t 0x0500 == some 0xEF && at_ t 0x0501 == some 0xBE) = true := by decide

theorem test_v50_mov_index_store :
    goes (step (machine [0x42, 0x80] [] { Regs.reset with di := 0x3000, b := 0x66 } Flags.reset))
      (fun t => t.regs.tx == 0x0080 && at_ t 0x2F80 == some 0x66) = true := by decide

theorem test_v51_mov_word_index_load :
    goes (step (machine [0x49, 0x02] [(0x2002, 0xCD), (0x2003, 0xAB)] { Regs.reset with bp := 0x2000 } Flags.reset))
      (fun t => t.regs.si == 0xABCD && t.regs.memaddr == 0x2003) = true := by decide

theorem test_v52_mov_word_index_store :
    goes (step (machine [0x4B, 0xFE] [] { Regs.reset with bp := 0x2000, si := 0x1234 } Flags.reset))
      (fun t => at_ t 0x1FFE == some 0x34 && at_ t 0x1FFF == some 0x12) = true := by decide

theorem test_v54_index_wraps :
    goes (step (machine [0x31, 0x01] [] { Regs.reset with bp := 0xFFFF } Flags.reset))
      (fun t => t.regs.a == 0x31 && t.regs.memaddr == 0x0000) = true := by decide

theorem test_v60_add :
    goes (step (machine [0x70] [] { Regs.reset with a := 0x1F, b := 0xF8 } (zcv false false false)))
      (fun t => t.regs.a == 0x17 && t.regs.lhs == 0x17 && t.regs.rhs == 0xF8 && t.flags == zcv false true false) = true := by decide

theorem test_v62_adc :
    goes (step (machine [0x77] [] { Regs.reset with a := 0xFF } (zcv false true false)))
      (fun t => t.regs.a == 0x00 && t.flags == zcv true true false) = true := by decide

theorem test_v63_sub :
    goes (step (machine [0x7E] [] { Regs.reset with a := 0x03, d := 0x05 } (zcv false false false)))
      (fun t => t.regs.a == 0xFE && t.flags == zcv false true false) = true := by decide

theorem test_v65_sbb :
    goes (step (machine [0x82] [] { Regs.reset with a := 0x10, b := 0x01 } (zcv false true false)))
      (fun t => t.regs.a == 0x0E && t.flags == zcv false false false) = true := by decide

theorem test_v66_and :
    goes (step (machine [0x88] [] { Regs.reset with a := 0xF0, b := 0x0F } (zcv false false false)))
      (fun t => t.regs.a == 0x00 && t.flags == zcv true false false) = true := by decide

theorem test_v67_or :
    goes (step (machine [0x93] [] { Regs.reset with c := 0x50, d := 0x05 } (zcv false true false)))
      (fun t => t.regs.c == 0x55 && t.flags == zcv false false false) = true := by decide

theorem test_v68_xor :
    goes (step (machine [0x94] [] { Regs.reset with a := 0xAA, b := 0xAA } (zcv false false false)))
      (fun t => t.regs.a == 0x00 && t.flags == zcv true false false) = true := by decide

theorem test_v69_cmp :
    goes (step (machine [0x9A] [] { Regs.reset with a := 0x10, b := 0x20 } (zcv false false false)))
      (fun t => t.regs.a == 0x10 && t.regs.lhs == 0x10 && t.flags == zcv false true false) = true := by decide

theorem test_v70_add_imm :
    goes (step (machine [0xA0, 0xFF] [] { Regs.reset with a := 0x01 } (zcv false false false)))
      (fun t => t.regs.a == 0x00 && t.regs.tx == 0x00FF && t.flags == zcv true true false) = true := by decide

theorem test_v71_adc_imm :
    goes (step (machine [0xA5, 0x80] [] { Regs.reset with b := 0x7F } (zcv false true false)))
      (fun t => t.regs.b == 0x00 && t.flags == zcv true true false) = true := by decide

theorem test_v72_sub_imm :
    goes (step (machine [0xAA, 0x01] [] { Regs.reset with c := 0x80 } (zcv false false false)))
      (fun t => t.regs.c == 0x7F && t.flags == zcv false false true) = true := by decide

theorem test_v73_sbb_imm :
    goes (step (machine [0xAF, 0x00] [] { Regs.reset with d := 0x00 } (zcv false true false)))
      (fun t => t.regs.d == 0xFF && t.flags == zcv false true false) = true := by decide

theorem test_v74_and_imm :
    goes (step (machine [0xB0, 0x0F] [] { Regs.reset with a := 0x3C } (zcv false false false)))
      (fun t => t.regs.a == 0x0C && t.flags == zcv false false false) = true := by decide

theorem test_v75_or_imm :
    goes (step (machine [0xB5, 0x80] [] { Regs.reset with b := 0x01 } (zcv false false false)))
      (fun t => t.regs.b == 0x81 && t.flags == zcv false false false) = true := by decide

theorem test_v76_xor_imm :
    goes (step (machine [0xBA, 0xFF] [] { Regs.reset with c := 0x0F } (zcv false false false)))
      (fun t => t.regs.c == 0xF0 && t.flags == zcv false false false) = true := by decide

theorem test_v77_cmp_imm :
    goes (step (machine [0xBF, 0x05] [] { Regs.reset with d := 0x05 } (zcv false false false)))
      (fun t => t.regs.d == 0x05 && t.regs.tx == 0x0005 && t.flags == zcv true false false) = true := by decide

theorem test_v78_not :
    goes (step (machine [0xC0] [] { Regs.reset with a := 0x1F } (zcv false false false)))
      (fun t => t.regs.a == 0xE0 && t.regs.rhs == 0x1F && t.flags == zcv false false false) = true := by decide

theorem test_v80_shl :
    goes (step (machine [0xC6] [] { Regs.reset with c := 0x81 } (zcv false false false)))
      (fun t => t.regs.c == 0x02 && t.flags == zcv false true false) = true := by decide

theorem test_v81_shr :
    goes (step (machine [0xCB] [] { Regs.reset with d := 0x01 } (zcv false true false)))
      (fun t => t.regs.d == 0x00 && t.flags == zcv true false false) = true := by decide

theorem test_v82_clr :
    goes (step (machine [0xCC] [] { Regs.reset with a := 0x55 } (zcv false true true)))
      (fun t => t.regs.a == 0x00 && t.flags == zcv true false true) = true := by decide

theorem test_v83_inc :
    goes (step (machine [0xD1] [] { Regs.reset with b := 0xFF } (zcv false false false)))
      (fun t => t.regs.b == 0x00 && t.flags == zcv true true false) = true := by decide

theorem test_v85_dec :
    goes (step (machine [0xD7] [] { Regs.reset with d := 0x00 } (zcv false false false)))
      (fun t => t.regs.d == 0xFF && t.flags == zcv false true false) = true := by decide

theorem test_v90_push :
    goes (step (machine [0x50] [] { Regs.reset with sp := 0x0100, a := 0xAB } Flags.reset))
      (fun t => t.regs.sp == 0x00FF && at_ t 0x00FF == some 0xAB) = true := by decide

theorem test_v91_pop :
    goes (step (machine [0x57] [(0x00FF, 0xCD)] { Regs.reset with sp := 0x00FF } Flags.reset))
      (fun t => t.regs.d == 0xCD && t.regs.sp == 0x0100) = true := by decide

theorem test_v92_push_word :
    goes (step (machine [0x58] [] { Regs.reset with sp := 0x0100, bp := 0x1234 } Flags.reset))
      (fun t => t.regs.sp == 0x00FE && at_ t 0x00FF == some 0x12 && at_ t 0x00FE == some 0x34) = true := by decide

theorem test_v93_pop_word :
    goes (step (machine [0x5C] [(0x00FE, 0x34), (0x00FF, 0x12)] { Regs.reset with sp := 0x00FE } Flags.reset))
      (fun t => t.regs.si == 0x1234 && t.regs.sp == 0x0100 && t.regs.memaddr == 0x00FF) = true := by decide

theorem test_v94_pushf :
    goes (step (machine [0x5E] [] { Regs.reset with sp := 0x0100, tx := 0xABCD } (zcv true false true)))
      (fun t => t.regs.tx == 0x0005 && at_ t 0x00FF == some 0x05) = true := by decide

theorem test_v95_popf :
    goes (step (machine [0x5F] [(0x00FF, 0xFA)] { Regs.reset with sp := 0x00FF, tx := 0xABCD } Flags.reset))
      (fun t => t.regs.tx == 0xABFA && t.regs.sp == 0x0100 && t.flags == zcv false true false) = true := by decide

theorem test_v96_push_wraps :
    goes (step (machine [0x50] [] { Regs.reset with a := 0xAB } Flags.reset))
      (fun t => t.regs.sp == 0xFFFF && at_ t 0xFFFF == some 0xAB) = true := by decide

theorem test_v100_jmp :
    goes (step (machine [0x60, 0x34, 0x12] [] Regs.reset Flags.reset))
      (fun t => t.regs.pc == 0x1234 && t.regs.memaddr == 0x0003 && t.regs.tx == 0x0000 && t.count == 6) = true := by decide

theorem test_v101_jz_taken :
    goes (step (machine [0x61, 0x34, 0x12] [] Regs.reset (zcv true false false)))
      (fun t => t.regs.pc == 0x1234 && t.regs.tx == 0x1234 && t.count == 7) = true := by decide

theorem test_v109_jz_not_taken :
    goes (step (machine [0x61, 0x34, 0x12] [] Regs.reset (zcv false true true)))
      (fun t => t.regs.pc == 0x0003 && t.regs.tx == 0x1234 && t.count == 7) = true := by decide

theorem test_v103_jnz :
    goes (step (machine [0x62, 0x34, 0x12] [] Regs.reset (zcv false false false)))
      (fun t => t.regs.pc == 0x1234 && t.regs.tx == 0x1234 && t.count == 7) = true := by decide

theorem test_v105_jc :
    goes (step (machine [0x63, 0x34, 0x12] [] Regs.reset (zcv false true false)))
      (fun t => t.regs.pc == 0x1234 && t.regs.tx == 0x1234 && t.count == 7) = true := by decide

theorem test_v106_jnc :
    goes (step (machine [0x64, 0x34, 0x12] [] Regs.reset (zcv false true false)))
      (fun t => t.regs.pc == 0x0003 && t.regs.tx == 0x1234 && t.count == 7) = true := by decide

theorem test_v107_jv :
    goes (step (machine [0x65, 0x34, 0x12] [] Regs.reset (zcv false false true)))
      (fun t => t.regs.pc == 0x1234 && t.regs.tx == 0x1234 && t.count == 7) = true := by decide

theorem test_v108_jnv :
    goes (step (machine [0x66, 0x34, 0x12] [] Regs.reset (zcv false false false)))
      (fun t => t.regs.pc == 0x1234 && t.regs.tx == 0x1234 && t.count == 7) = true := by decide

theorem test_v110_call :
    goes (step (machine [0x67, 0x34, 0x12] [] { Regs.reset with sp := 0x0100 } Flags.reset))
      (fun t => t.regs.pc == 0x1234 && t.regs.sp == 0x00FE && at_ t 0x00FF == some 0x00 && at_ t 0x00FE == some 0x03) = true := by decide

theorem test_v111_ret :
    goes (step (machine [0x68] [(0x00FE, 0x03), (0x00FF, 0x00)] { Regs.reset with sp := 0x00FE } Flags.reset))
      (fun t => t.regs.pc == 0x0003 && t.regs.sp == 0x0100) = true := by decide

theorem test_v120_in :
    goes (step (withChannels [0x41] (machine [0xE0] [] Regs.reset Flags.reset)))
      (fun t => t.regs.a == 0x41 && t.io.input[0] == []) = true := by decide

theorem test_v121_out :
    goes (step (withChannels [] (machine [0xE9] [] { Regs.reset with a := 0x41 } Flags.reset)))
      (fun t => t.io.output[1] == [0x41] && t.bus.data == 0x41) = true := by decide

theorem test_v125_hlt :
    goes (step (machine [0xFF] [] Regs.reset Flags.reset))
      (fun t => t.lines.halt && t.regs.pc == 0x0001 && t.count == 3) = true := by decide

theorem test_v21_unassigned :
    stops (step (machine [0xF0] [] Regs.reset)) .invalidInstruction
      (fun t => t.regs.pc == 0x0001 && t.regs.ir == 0xF0 && t.regs.memaddr == 0x0000 && t.count == 0) = true := by decide

theorem test_v25_operand_unmapped :
    stops (step (onBanks [⟨0, 1, true⟩] (machine [0x01, 0x1F] [] Regs.reset))) .protectedMemory
      (fun t => t.regs.pc == 0x0002 && t.regs.memaddr == 0x0001 && t.regs.a == 0x00) = true := by decide

theorem test_v26_opcode_unmapped :
    stops (step (onBanks [] (machine [] [] Regs.reset))) .protectedMemory
      (fun t => t.regs.pc == 0x0001 && t.regs.memaddr == 0x0000 && t.regs.ir == 0x00) = true := by decide

theorem test_v55_store_read_only :
    stops (step (onBanks [⟨0, 3, false⟩, ⟨0x8000, 1, false⟩] (machine [0x09, 0x00, 0x80] [] { Regs.reset with a := 0x12 }))) .protectedMemory
      (fun t => t.regs.tx == 0x8000 && t.regs.memaddr == 0x8000 && t.regs.pc == 0x0003 && at_ t 0x8000 == some 0x00) = true := by decide

theorem test_v97_push_unmapped :
    stops (step (onBanks [⟨0, 0x10, true⟩] (machine [0x50] [] { Regs.reset with a := 0xAB }))) .protectedMemory
      (fun t => t.regs.sp == 0xFFFF && t.regs.memaddr == 0xFFFF) = true := by decide

theorem test_v122_in_wrong_direction :
    stops (step (withChannels [0x41] (machine [0xE1] [] Regs.reset))) .invalidComponentID
      (fun t => t.regs.a == 0x00 && t.regs.pc == 0x0001) = true := by decide

theorem test_v123_out_wrong_direction :
    stops (step (withChannels [0x41] (machine [0xE8] [] Regs.reset))) .invalidComponentID
      (fun t => t.io.output[0] == []) = true := by decide

theorem test_v127_insertIO_twice :
    insertIO 0 .input (withChannels [] State.reset) = .done .invalidComponentID (withChannels [] State.reset) := by
  decide

/-- The document's bank overlap example (V8). -/
theorem test_v8_add :
    (Memory.add ⟨[⟨0x1000, 0x100, true⟩], []⟩ 0x10F0 0x20 true none = none) ∧
      (Memory.add ⟨[⟨0x1000, 0x100, true⟩], []⟩ 0x1010 2 false (some [0xAA, 0xBB]) =
        some ⟨[⟨0x1000, 0x100, true⟩], [(0x1010, 0xAA), (0x1011, 0xBB)]⟩) := by
  decide

theorem test_withFetchWord_runs :
    goes (step (State.reset.withFetchWord 16 0x1F01)) (fun t => t.regs.a == 0x1F && t.regs.pc == 0x0002) = true := by
  decide

/-- From reset with no bank added, the first opcode fetch raises ProtectedMemory wherever the run starts
(70_reset_and_hazards.md R443). -/
theorem test_r443_no_memory (start : Word) :
    ∃ l, step (beginRun start State.reset) = .fault (.protectedMemory l) ∧ l.regs.pc = start + 1 ∧ l.regs.ir = 0x00 :=
  ⟨_, rfl, rfl, rfl⟩

/-- The boot order of 70_reset_and_hazards.md R443: a RAM bank, a read-only image, a channel, reset, then the run's first
instruction; each bank keeps the flag it was added with. -/
theorem test_r443_boot :
    (accepted (addBank 0x2000 0x10 true none State.reset) fun s =>
      accepted (addBank 0x0100 4 false (some [0x01, 0x1F, 0x09, 0x00]) s) fun t =>
        accepted (insertIO 0 .input t) fun u =>
          goes (step (beginRun 0x0100 (hostReset u))) fun x =>
            x.regs.a == 0x1F && at_ x 0x2000 == some 0x00 && at_ x 0x0104 == none &&
              x.mem.writable 0x0100 == false && x.mem.writable 0x2000) = true := by
  decide

/-! ### Witnesses: concrete cases that meet the hypotheses of the obligations -/

/-- RAM at 0x0100 to 0x010F, one read-only byte at 0x0200, nothing else mapped. -/
def islands (g : Regs := Regs.reset) : State :=
  onBanks [⟨0x0100, 0x10, true⟩, ⟨0x0200, 1, false⟩] { State.reset with regs := g }

/-- A completed outcome exists. -/
def completes (o : Out) : Bool := goes o fun _ => true

/-- The outcome is the refusal. -/
def refuses (o : Out) (r : Refusal) : Bool :=
  match o with
  | .refused x => x == r
  | _ => false

theorem test_witness_EncodeDecodeRoundTrip :
    decode [0x06, 0x34, 0x12, 0xFF] = .ok (.movBMem 0x1234, [0xFF]) := by decide

theorem test_witness_OpcodeNumbersFollowFormulas :
    Instr.movCopy8 .a .b = some .movAB ∧ Instr.movCopy8 .d .c = some .movDC ∧
      Instr.movCopy16 .sp .bp = some .movSpBp ∧ Instr.movCopy16 .di .si = some .movDiSi := by decide

theorem test_witness_OperandBytesNeverRefused :
    defaultEntry 0x06 = some (microcode (.movBMem 0)) ∧
      [0xFF#8, 0xFF#8].length = operandBytes (microcode (.movBMem 0)).mode := by decide

theorem test_witness_StepRunsDecodedInstruction :
    Ready (machine [0x01, 0x1F]) ∧ decode (fetchBytes (machine [0x01, 0x1F])) = .ok (.movAImm 0x1F, [0x00]) :=
  ⟨⟨rfl, rfl, rfl⟩, by decide⟩

theorem test_witness_StepIsTheMicrocodeRun : (machine [0x01, 0x1F]).lines.halt = false := rfl

theorem test_witness_ClocksComposeToStep :
    (machine [0xE0]).lines.halt = false ∧ (machine [0xE0]).control = .fetchOpcode1 ∧
      completes (step (machine [0x00])) = true ∧ stops (step (machine [0xF0])) .invalidInstruction (fun _ => true) = true ∧
      refuses (step (withChannels [] (machine [0xE0]))) (.inputExhausted 0) = true := by
  refine ⟨rfl, rfl, ?_, ?_, ?_⟩ <;> decide

theorem test_witness_StepKeepsCanonical :
    Canonical (machine []) ∧ completes (step (machine [])) = true ∧ completes (clock (machine [])) = true ∧
      Canonical (islands) ∧ stops (step islands) .protectedMemory (fun _ => true) = true ∧
      Canonical { islands with control := .fetchOpcode2 } ∧
      stops (clock { islands with control := .fetchOpcode2 }) .protectedMemory (fun _ => true) = true := by
  refine ⟨⟨by decide, fun _ _ h => by cases h⟩, by decide, by decide, ⟨by decide, fun _ _ h => by cases h⟩, by decide,
    ⟨by decide, fun _ _ h => by cases h⟩, by decide⟩

theorem test_witness_HaltedMachineStays :
    (hostHalt State.reset).lines.halt = true ∧ (hostHalt State.reset).control = .fetchOpcode1 := ⟨rfl, rfl⟩

/-- An entry without its Done bit, which no table may use. -/
def illFormed : Entry := plainEntry "X" .implied none [.xdata (.byte .a) (.byte .b)]

theorem test_witness_DecodeErrors :
    (machine [0xF0]).mem.readByte 0 = some 0xF0 ∧ tableEntry (machine [0xF0]).table 0xF0 = none ∧
      tableEntry (setTable (.host [(0xF0, illFormed)]) (machine [0xF0])).table 0xF0 = some illFormed ∧
      illFormed.wellFormed = false := by
  decide

theorem test_witness_UnmappedStreamByteFaults :
    Ready islands ∧ islands.mem.readByte 0 = none ∧
      (onBanks [⟨0, 1, true⟩] (machine [0x31])).mem.readByte 0 = some 0x31 ∧
      (onBanks [⟨0, 1, true⟩] (machine [0x31])).mem.readByte 1 = none ∧
      operandBytes (microcode (.movABpIdx 0)).mode = 1 ∧ defaultEntry 0x31 = some (microcode (.movABpIdx 0)) ∧
      (onBanks [⟨0, 2, true⟩] (machine [0x60, 0x34])).mem.readByte 1 = some 0x34 ∧
      (onBanks [⟨0, 2, true⟩] (machine [0x60, 0x34])).mem.readByte 2 = none ∧
      operandBytes (microcode (.jmp 0)).mode = 2 ∧ defaultEntry 0x60 = some (microcode (.jmp 0)) := by
  refine ⟨⟨rfl, rfl, rfl⟩, ?_⟩
  decide

/-- The states the last three clauses leave: a word operand whose first or second byte is unmapped (R229, R350). -/
theorem test_unmapped_word_operand :
    stops (step (onBanks [⟨0, 1, true⟩] (machine [0x60]))) .protectedMemory
        (fun l => l.regs.pc == 0x0001 && l.regs.memaddr == 0x0001) = true ∧
      stops (step (onBanks [⟨0x10FE, 2, true⟩]
          { machine [] [(0x10FE, 0x60), (0x10FF, 0x34)] with regs := { Regs.reset with pc := 0x10FE } })) .protectedMemory
        (fun l => l.regs.pc == 0x1034 && l.regs.memaddr == 0x1100) = true := by
  decide

theorem test_witness_RetireCountsAndReports :
    completes (exec .hlt islands) = true ∧ stops (exec .popA islands) .protectedMemory (fun _ => true) = true := by
  decide

theorem test_witness_ErrorsOfTheDefaultTable :
    stops (exec .popA islands) .protectedMemory (fun _ => true) = true ∧
      stops (exec .inA0 islands) .invalidComponentID (fun _ => true) = true ∧
      refuses (exec .inA0 (withChannels [] islands)) (.inputExhausted 0) = true := by
  decide

theorem test_witness_StepKeepsConfiguration :
    completes (step (hostHalt (machine [0x00]))) = true ∧ (hostHalt (machine [0x00])).lines.halt = true ∧
      completes (step (machine [0x00])) = true ∧ stops (step islands) .protectedMemory (fun _ => true) = true ∧
      islands.mem.writable 0x0200 = false ∧ islands.mem.writable 0x0110 = false := by
  decide

theorem test_witness_FlagsOnlyChangedByAluAndPopf :
    completes (exec .movAB islands) = true ∧ completes (exec .addAB islands) = true ∧
      stops (exec .popf islands) .protectedMemory (fun _ => true) = true := by
  decide

theorem test_witness_MemWriteAndPoke :
    islands.mem.writable (0x010F : Word).toNat = true ∧ islands.mem.writable (0x0200 : Word).toNat = false ∧
      islands.mem.readByte (0x0200 : Word).toNat = some 0x00 ∧ islands.mem.bankOf (0x0110 : Word).toNat = none := by
  decide

theorem test_witness_BanksNeverOverlap :
    islands.mem.wf ∧ (islands.mem.add 0x0110 2 true none).isSome = true ∧
      (⟨0x0100, 0x10, true⟩ : Bank) ∈ islands.mem.banks ∧ (⟨0x0100, 0x10, true⟩ : Bank).covers 0x010F = true := by
  decide

/-- `AddBankCases`: a block that just fits inside, one that runs one byte over, one that just touches. -/
theorem test_witness_AddBankCases :
    (∃ k ∈ islands.mem.banks, k.start ≤ 0x010E ∧ 0x010E + 2 ≤ k.start + k.size) ∧
      (∀ k ∈ islands.mem.banks, ¬(k.start ≤ 0x010F ∧ 0x010F + 2 ≤ k.start + k.size)) ∧
      (∃ k ∈ islands.mem.banks, 0x010F < k.start + k.size ∧ k.start < 0x010F + 2) ∧
      (∀ k ∈ islands.mem.banks, ¬(0x0110 < k.start + k.size ∧ k.start < 0x0110 + 2)) ∧
      [0xAA#8, 0xBB#8].length = 2 ∧ (0x0110 : Word).toNat + 2 ≤ 0x10000 := by
  decide

theorem test_witness_HostCycle :
    (Step.xdata .alu (.byte .a)).wellFormed = false ∧
      (Step.xdata (.byte .a) (.byte .b)).wellFormed = true ∧
      completes (cycle (.xdata (.byte .a) (.byte .b)) false none islands) = true ∧
      (Step.xdata .mem (.byte .b)).wellFormed = true ∧
      stops (cycle (.xdata .mem (.byte .b)) false none islands) .protectedMemory (fun _ => true) = true ∧
      hostCycle (.xdata .alu (.byte .a)) islands = .done .invalidMicroCode islands := by
  decide

theorem test_witness_WideOperationsRaise :
    (Step.xdata (.byte .b) .alu AluOp.add.code) ∈ (microcode .addAB).steps := by decide

theorem test_witness_OverflowRule :
    completes (aluOperate .add State.reset) = true ∧ completes (aluOperate .adc State.reset) = true ∧
      completes (aluOperate .sub State.reset) = true ∧ completes (aluOperate .sbb State.reset) = true ∧
      completes (aluOperate .cmp State.reset) = true := by decide

/-- `FlagsMeanExactness`: both values of each flag occur (41_alu.md R184 to R187, corner cases). -/
theorem test_witness_FlagsMeanExactness :
    goes (aluOperate .add { (State.reset.driveData 0x80) with regs := { Regs.reset with lhs := 0x80 } })
        (fun t => t.flags == zcv true true true) = true ∧
      goes (aluOperate .adc { (State.reset.driveData 0xFF) with
        regs := { Regs.reset with lhs := 0xFF }, flags := zcv false true false })
        (fun t => t.flags == zcv false true false && t.regs.lhs == 0xFF) = true ∧
      goes (aluOperate .sub { (State.reset.driveData 0xFF) with regs := { Regs.reset with lhs := 0x7F } })
        (fun t => t.flags == zcv false true true) = true ∧
      goes (aluOperate .sbb { (State.reset.driveData 0x00) with flags := zcv false true false })
        (fun t => t.flags == zcv false true false && t.regs.lhs == 0xFF) = true := by
  decide

theorem test_witness_MovCopy :
    Instr.movCopy8 .d .a = some .movDA ∧ Instr.movCopy16 .bp .sp = some .movBpSp := by decide

/-- `MovLoadByte`, `MovLoadWord`: the first and last byte of a bank, and the bytes next to it. -/
theorem test_witness_loads :
    islands.mem.readByte (0x0200 : Word).toNat = some 0x00 ∧ islands.mem.readByte (0x00FF : Word).toNat = none ∧
      islands.mem.readByte (0x010E : Word).toNat = some 0x00 ∧ islands.mem.readByte ((0x010E : Word) + 1).toNat = some 0x00 ∧
      islands.mem.readByte (0x010F : Word).toNat = some 0x00 ∧ islands.mem.readByte ((0x010F : Word) + 1).toNat = none := by
  decide

/-- `MovStoreByte`, `MovStoreWord`. -/
theorem test_witness_stores :
    islands.mem.writable (0x0100 : Word).toNat = true ∧ islands.mem.writable (0x0200 : Word).toNat = false ∧
      islands.mem.writable (0x010E : Word).toNat = true ∧ islands.mem.writable ((0x010E : Word) + 1).toNat = true ∧
      islands.mem.writable (0x010F : Word).toNat = true ∧ islands.mem.writable ((0x010F : Word) + 1).toNat = false := by
  decide

/-- `MovLoadIndexedByte`, `MovLoadIndexedWord`: displacements 0x80 and 0x7F, at the edges of a bank. -/
theorem test_witness_indexed_loads :
    (islands { Regs.reset with bp := 0x0180 }).mem.readByte
        (BitVec.ofInt 16 ((0x0180 : Word).toNat + (0x80 : Byte).toInt)).toNat = some 0x00 ∧
      (BitVec.ofInt 16 ((0x0180 : Word).toNat + (0x80 : Byte).toInt)) = 0x0100 ∧
      islands.mem.readByte ((BitVec.ofInt 16 ((0x0180 : Word).toNat + (0x80 : Byte).toInt)) + 1).toNat = some 0x00 ∧
      islands.mem.readByte (BitVec.ofInt 16 ((0x0100 : Word).toNat + (0xFF : Byte).toInt)).toNat = none ∧
      islands.mem.readByte (BitVec.ofInt 16 ((0x0090 : Word).toNat + (0x7F : Byte).toInt)).toNat = some 0x00 ∧
      islands.mem.readByte (BitVec.ofInt 16 ((0x0090 : Word).toNat + (0x7F : Byte).toInt) + 1).toNat = none := by
  decide

/-- `MovStoreIndexedByte`, `MovStoreIndexedWord`. -/
theorem test_witness_indexed_stores :
    islands.mem.writable (BitVec.ofInt 16 ((0x0180 : Word).toNat + (0x80 : Byte).toInt)).toNat = true ∧
      islands.mem.writable (BitVec.ofInt 16 ((0x0180 : Word).toNat + (0x80 : Byte).toInt) + 1).toNat = true ∧
      islands.mem.writable (BitVec.ofInt 16 ((0x0201 : Word).toNat + (0xFF : Byte).toInt)).toNat = false ∧
      islands.mem.writable (BitVec.ofInt 16 ((0x0090 : Word).toNat + (0x7F : Byte).toInt)).toNat = true ∧
      islands.mem.writable (BitVec.ofInt 16 ((0x0090 : Word).toNat + (0x7F : Byte).toInt) + 1).toNat = false := by
  decide

theorem test_witness_AluInstructions : BinaryOp.add ≠ .cmp ∧ BinaryOp.xor ≠ .cmp := by decide

/-- `PushByte`, `PushWord`, `PushFlags`, `Call`: SP at the edges of a bank. -/
theorem test_witness_pushes :
    islands.mem.writable ((0x0101 : Word) - 1).toNat = true ∧ islands.mem.writable ((0x0100 : Word) - 1).toNat = false ∧
      islands.mem.writable ((0x0102 : Word) - 1).toNat = true ∧ islands.mem.writable ((0x0102 : Word) - 2).toNat = true ∧
      islands.mem.writable ((0x0101 : Word) - 2).toNat = false := by
  decide

/-- `PopByte`, `PopWord`, `PopFlags`, `Return`. -/
theorem test_witness_pops :
    (islands { Regs.reset with sp := 0x010E }).mem.readByte (0x010E : Word).toNat = some 0x00 ∧
      islands.mem.readByte ((0x010E : Word) + 1).toNat = some 0x00 ∧
      islands.mem.readByte (0x0110 : Word).toNat = none ∧
      islands.mem.readByte (0x010F : Word).toNat = some 0x00 ∧ islands.mem.readByte ((0x010F : Word) + 1).toNat = none := by
  decide

theorem test_witness_StackRoundTrips :
    (∃ t, exec (.push8 .a) (islands { Regs.reset with sp := 0x0101 }) = .next t ∧ t.regs.sp = t.regs.sp) ∧
      (∃ t, exec (.push16 .bp) (islands { Regs.reset with sp := 0x0102 }) = .next t ∧ t.regs.sp = t.regs.sp) ∧
      ∃ t, exec .pushf (islands { Regs.reset with sp := 0x0101 }) = .next t ∧ t.regs.sp = t.regs.sp :=
  ⟨⟨_, rfl, rfl⟩, ⟨_, rfl, rfl⟩, ⟨_, rfl, rfl⟩⟩

/-- `Input`, `InputExhausted`, `Output`: channel 0 an input, channel 1 an output, so each wrong direction too. -/
theorem test_witness_channels :
    (withChannels [0x41] islands).io.channels[Port.p0.channel.val] = some .input ∧
      (withChannels [0x41] islands).io.input[Port.p0.channel.val] = [0x41] ∧
      (withChannels [] islands).io.input[Port.p0.channel.val] = [] ∧
      (withChannels [] islands).io.channels[Port.p1.channel.val] ≠ some .input ∧
      (withChannels [] islands).io.channels[Port.p1.channel.val] = some .output ∧
      (withChannels [] islands).io.channels[Port.p0.channel.val] ≠ some .output ∧
      islands.io.channels[Port.p0.channel.val] = none := by
  decide

end Sys2Proof.Tests
end

section
/-! PROOFS. The host's `reset()` and the entry of `run`, field by field (10_state.md R50, 42_controller.md R248). -/

namespace Sys2Proof.Machine

open Sys2Proof

/-! ### What `reset()` sets -/

@[simp] theorem hostReset_regs (s : State) : (hostReset s).regs = Regs.reset := rfl
@[simp] theorem hostReset_flags (s : State) : (hostReset s).flags = Flags.reset := rfl
@[simp] theorem hostReset_bus (s : State) : (hostReset s).bus = Bus.reset := rfl
@[simp] theorem hostReset_lines (s : State) :
    (hostReset s).lines = { halt := false, suspend := false, nmi := false, runMode := s.lines.runMode } := rfl
@[simp] theorem hostReset_control (s : State) : (hostReset s).control = .fetchOpcode1 := rfl
@[simp] theorem hostReset_count (s : State) : (hostReset s).count = 0 := rfl

/-! ### What `reset()` leaves -/

@[simp] theorem hostReset_mem (s : State) : (hostReset s).mem = s.mem := rfl
@[simp] theorem hostReset_io (s : State) : (hostReset s).io = s.io := rfl

/-! ### The entry of `run` -/

@[simp] theorem beginRun_regs (start : Word) (s : State) : (beginRun start s).regs = { s.regs with pc := start } := rfl

/-- Settles O12, row by row of R50's table: the rows `reset()` sets, the rows it leaves, and the entry point, which `run`
takes from its own argument whatever the reset state holds. -/
theorem resetValues : Obligations.ResetValues := by
  intro s
  have lines := hostReset_lines s
  have channels : (hostReset s).io.channels = s.io.channels := by rw [hostReset_io]
  have entry : ∀ start : Word, (beginRun start (hostReset s)).regs.pc = start := fun start => by rw [beginRun_regs]
  refine ⟨hostReset_regs s, hostReset_flags s, ?halt, ?suspend, ?nmi, hostReset_bus s, ?runMode,
    hostReset_control s, hostReset_count s, hostReset_mem s, channels, entry⟩
  case halt | suspend | nmi | runMode => rw [lines]

end Sys2Proof.Machine
end

section
/-! PROOFS. The host's byte access `peek` and `poke`, and the three cases of `add` (20_memory.md R63, R69, R70). -/

namespace Sys2Proof.Machine

open Sys2Proof

/-! ### Mapped and unmapped addresses -/

theorem readByte_of_mapped {m : Memory} {a : Nat} (h : (m.bankOf a).isSome = true) :
    m.readByte a = some (lookupCell m.cells a) := by
  obtain ⟨b, hb⟩ := Option.isSome_iff_exists.mp h
  simp only [Memory.readByte, hb]

theorem readByte_of_unmapped {m : Memory} {a : Nat} (h : m.bankOf a = none) : m.readByte a = none := by
  simp only [Memory.readByte, h]

theorem writable_of_unmapped {m : Memory} {a : Nat} (h : m.bankOf a = none) : m.writable a = false := by
  simp only [Memory.writable, h, Option.any_none]

/-! ### `peek` and `poke` -/

theorem peek_of_readByte {s : State} {a : Word} {b : Byte} (h : s.mem.readByte a.toNat = some b) : peek a s = .ok b := by
  simp only [peek, h]

theorem peek_of_unmapped {s : State} {a : Word} (h : s.mem.bankOf a.toNat = none) :
    peek a s = .error .protectedMemory := by
  simp only [peek, readByte_of_unmapped h]

theorem poke_of_writeByte {s : State} {a : Word} {v : Byte} {m : Memory} (h : s.mem.writeByte a.toNat v = some m) :
    poke a v s = .done .noError { s with mem := m } := by
  simp only [poke, h]

theorem poke_of_not_writable {s : State} {a : Word} (v : Byte) (h : s.mem.writable a.toNat = false) :
    poke a v s = .done .protectedMemory s := by
  simp only [poke, writeByte_none v h]

/-- Settles O22, clause by clause; an unmapped address is one that is not writable. -/
theorem memWriteAndPoke : Obligations.MemWriteAndPoke := by
  intro s a v
  refine ⟨fun writable => ?written, fun refused => ⟨writeByte_none v refused, poke_of_not_writable v refused⟩,
    fun b read => peek_of_readByte read,
    fun unmapped => ⟨peek_of_unmapped unmapped, poke_of_not_writable v (writable_of_unmapped unmapped)⟩⟩
  case written =>
    have write := writeByte_some v writable
    obtain ⟨-, banks, reads⟩ := writeByte_effect write
    exact ⟨_, write, poke_of_writeByte write, banks, reads⟩

/-! ### Blocks and banks -/

theorem Bank.covers_iff {b : Bank} {a : Nat} : b.covers a = true ↔ b.start ≤ a ∧ a < b.start + b.size := by
  simp only [Bank.covers, Bool.and_eq_true, decide_eq_true_eq]

theorem any_contains_iff {banks : List Bank} {start size : Nat} :
    banks.any (·.contains start size) = true ↔
      ∃ k ∈ banks, k.start ≤ start ∧ start + size ≤ k.start + k.size := by
  simp only [List.any_eq_true, Bank.contains, Bool.and_eq_true, decide_eq_true_eq]

theorem any_overlaps_iff {banks : List Bank} {start size : Nat} :
    banks.any (·.overlaps start size) = true ↔
      ∃ k ∈ banks, start < k.start + k.size ∧ k.start < start + size := by
  simp only [List.any_eq_true, Bank.overlaps, Bool.and_eq_true, decide_eq_true_eq]

/-- A bank that holds a block of at least one byte shares an address with it. -/
theorem any_overlaps_of_any_contains {banks : List Bank} {start size : Nat} (hs : 1 ≤ size)
    (h : banks.any (·.contains start size) = true) : banks.any (·.overlaps start size) = true := by
  obtain ⟨k, mem, low, high⟩ := any_contains_iff.mp h
  exact any_overlaps_iff.mpr ⟨k, mem, by omega, by omega⟩

/-- A new bank changes which bank answers only at the addresses it covers. -/
theorem find?_insertBank_of_not_covers (banks : List Bank) {n : Bank} {a : Nat} (h : n.covers a = false) :
    (insertBank banks n).find? (·.covers a) = banks.find? (·.covers a) := by
  induction banks with
  | nil => simp [insertBank, h]
  | cons b rest ih =>
    simp only [insertBank]
    split
    · simp [h]
    · simp only [List.find?_cons, ih]

/-- Every other address reads as before when a bank is inserted. -/
theorem readByte_insertBank_of_not_covers (m : Memory) {n : Bank} {a : Nat} (h : n.covers a = false) :
    Memory.readByte { m with banks := insertBank m.banks n } a = m.readByte a := by
  simp only [Memory.readByte, Memory.bankOf, find?_insertBank_of_not_covers m.banks h]

/-! ### Storing a block -/

/-- What the cells hold after a block is stored: the block's bytes in its range, the old bytes elsewhere. -/
theorem lookupCell_storeBytes (cells : List Host.Cell) (a : Nat) (bytes : List Byte) (x : Nat) :
    lookupCell (storeBytes cells a bytes) x =
      if a ≤ x ∧ x < a + bytes.length then bytes.getD (x - a) Config.unlistedByte else lookupCell cells x := by
  induction bytes generalizing cells a with
  | nil => rw [if_neg (by simp only [List.length_nil]; omega)]; rfl
  | cons v rest ih =>
    simp only [storeBytes, ih, lookupCell_storeCell, List.length_cons]
    rcases Nat.lt_trichotomy x a with below | rfl | above
    · rw [if_neg (by omega), if_neg (by omega), if_neg (by omega)]
    · rw [if_neg (by omega), if_pos rfl, if_pos (by omega), Nat.sub_self, List.getD_cons_zero]
    · have index : x - a = x - (a + 1) + 1 := by omega
      rw [index, List.getD_cons_succ, if_neg (Nat.ne_of_gt above)]
      exact if_congr (by omega) rfl rfl

/-- What every address reads after a block is stored over mapped addresses. -/
theorem readByte_storeBytes {m : Memory} {a : Nat} {bytes : List Byte}
    (mapped : ∀ x, a ≤ x → x < a + bytes.length → (m.bankOf x).isSome = true) (x : Nat) :
    Memory.readByte { m with cells := storeBytes m.cells a bytes } x =
      if a ≤ x ∧ x < a + bytes.length then some (bytes.getD (x - a) Config.unlistedByte) else m.readByte x := by
  have cell := lookupCell_storeBytes m.cells a bytes x
  split at cell
  next inside =>
    have isMapped : (Memory.bankOf { m with cells := storeBytes m.cells a bytes } x).isSome = true :=
      mapped x inside.1 inside.2
    rw [readByte_of_mapped isMapped, cell, if_pos inside]
  next outside => simp only [Memory.readByte, Memory.bankOf, cell, if_neg outside]

/-! ### The three cases of `add` -/

/-- The bytes a block brings: its image, or what an unlisted address reads as (20_memory.md R63, R67). -/
def blockBytes (size : Nat) (image : Option (List Byte)) : List Byte :=
  image.getD (List.replicate size Config.unlistedByte)

section
variable {m : Memory} {start size : Nat} {w : Bool} {image : Option (List Byte)}

/-- A block of the right length inside a bank overwrites its range. -/
theorem add_of_contains (hs : 1 ≤ size) (fits : start + size ≤ Config.addressSpace)
    (len : (blockBytes size image).length = size) (inside : m.banks.any (·.contains start size) = true) :
    m.add start size w image = some { m with cells := storeBytes m.cells start (blockBytes size image) } := by
  have ok : ¬(size = 0 ∨ Config.addressSpace < start + size ∨ (blockBytes size image).length ≠ size) := by omega
  exact (if_neg ok).trans (if_pos inside)

/-- A block that overlaps a bank without lying inside one is rejected, whatever its image. -/
theorem add_of_overlaps (outside : m.banks.any (·.contains start size) = false)
    (overlap : m.banks.any (·.overlaps start size) = true) : m.add start size w image = none := by
  simp [Memory.add, outside, overlap]

/-- A block of the right length that shares no address with a bank becomes a bank. -/
theorem add_of_disjoint (hs : 1 ≤ size) (fits : start + size ≤ Config.addressSpace)
    (len : (blockBytes size image).length = size) (disjoint : m.banks.any (·.overlaps start size) = false) :
    m.add start size w image =
      some { banks := insertBank m.banks { start := start, size := size, writable := w }
             cells := storeBytes m.cells start (blockBytes size image) } := by
  have ok : ¬(size = 0 ∨ Config.addressSpace < start + size ∨ (blockBytes size image).length ≠ size) := by omega
  have outside : ¬m.banks.any (·.contains start size) = true := fun inside => by
    simp [any_overlaps_of_any_contains hs inside] at disjoint
  exact (if_neg ok).trans ((if_neg outside).trans (if_neg (by simp [disjoint])))

end

/-- What every address reads when a bank is added with its bytes. -/
theorem readByte_newBank (m : Memory) (n : Bank) {bytes : List Byte} (len : bytes.length = n.size) (x : Nat) :
    Memory.readByte { banks := insertBank m.banks n, cells := storeBytes m.cells n.start bytes } x =
      if n.start ≤ x ∧ x < n.start + n.size then some (bytes.getD (x - n.start) Config.unlistedByte)
      else m.readByte x := by
  have mapped : ∀ y, n.start ≤ y → y < n.start + bytes.length →
      (Memory.bankOf { m with banks := insertBank m.banks n } y).isSome = true := fun y low high =>
    bankOf_isSome.mpr ⟨n, mem_insertBank.mpr (.inl rfl), Bank.covers_iff.mpr ⟨low, len ▸ high⟩⟩
  have stored := readByte_storeBytes mapped x
  rw [len] at stored
  refine stored.trans ?_
  split
  next => rfl
  next outside =>
    exact readByte_insertBank_of_not_covers m (Bool.eq_false_iff.mpr fun covers => outside (Bank.covers_iff.mp covers))

theorem addBank_of_add {s : State} {start : Word} {size : Nat} {w : Bool} {image : Option (List Byte)} {m : Memory}
    (h : s.mem.add start.toNat size w image = some m) :
    addBank start size w image s = .done .noError { s with mem := m } := by
  simp only [addBank, h]

theorem addBank_of_rejected {s : State} {start : Word} {size : Nat} {w : Bool} {image : Option (List Byte)}
    (h : s.mem.add start.toNat size w image = none) : addBank start size w image s = .done .generalError s := by
  simp only [addBank, h]

/-- Settles O24: the block lies inside a bank, or overlaps one otherwise, or shares no address with any. -/
theorem addBankCases : Obligations.AddBankCases := by
  intro s start size w image hs fits len
  refine ⟨fun inside => ?overwritten, fun outside overlap img => ?rejected, fun disjoint img hi => ?added⟩
  case overwritten =>
    have added := add_of_contains (w := w) (image := some image) hs fits len (any_contains_iff.mpr inside)
    obtain ⟨k, mem, low, high⟩ := inside
    have mapped : ∀ y, start.toNat ≤ y → y < start.toNat + image.length → (s.mem.bankOf y).isSome = true :=
      fun y _ _ => bankOf_isSome.mpr ⟨k, mem, Bank.covers_iff.mpr ⟨by omega, by omega⟩⟩
    refine ⟨_, addBank_of_add added, rfl, fun x => (readByte_storeBytes mapped x).trans ?_⟩
    rw [len]
    refine if_ctx_congr Iff.rfl (fun block => ?_) fun _ => rfl
    have index : x - start.toNat < image.length := by omega
    rw [List.getD_eq_getElem _ _ index, List.getElem?_eq_getElem index]
  case rejected =>
    refine addBank_of_rejected (add_of_overlaps ?_ (any_overlaps_iff.mpr overlap))
    refine Bool.eq_false_iff.mpr fun inside => ?_
    obtain ⟨k, mem, within⟩ := any_contains_iff.mp inside
    exact outside k mem within
  case added =>
    have bytesLen : (blockBytes size img).length = size := by
      rcases hi with rfl | rfl
      · exact List.length_replicate
      · exact len
    have apart : s.mem.banks.any (·.overlaps start.toNat size) = false := by
      refine Bool.eq_false_iff.mpr fun overlap => ?_
      obtain ⟨k, mem, shared⟩ := any_overlaps_iff.mp overlap
      exact disjoint k mem shared
    refine ⟨_, addBank_of_add (add_of_disjoint (w := w) hs fits bytesLen apart), fun k => ?banks, fun x => ?bytes⟩
    case banks => exact mem_insertBank.trans or_comm
    case bytes => exact readByte_newBank s.mem { start := start.toNat, size := size, writable := w } bytesLen x

end Sys2Proof.Machine
end

section
/-! PROOFS. The opcode byte of every instruction family as the formula of 30_encoding.md R121 in its register fields. Each
formula is one lemma; its proof is the family's rows of the opcode map, one case for each choice of the fields. -/

namespace Sys2Proof.Instr

open Sys2Proof

/-! ### Byte moves -/

theorem toNat_opcode_movImm8 (r : GReg) (v : Byte) : (movImm8 r v).opcode.toNat = 0x01 + r.num := by
  cases r <;> rfl

theorem toNat_opcode_movLoad8 (r : GReg) (a : Word) : (movLoad8 r a).opcode.toNat = 0x05 + r.num := by
  cases r <;> rfl

theorem toNat_opcode_movStore8 (r : GReg) (a : Word) : (movStore8 r a).opcode.toNat = 0x09 + r.num := by
  cases r <;> rfl

/-- The only byte copies left out are those of a register to itself. -/
theorem movCopy8_eq_none_iff (rd rs : GReg) : movCopy8 rd rs = none ↔ rd = rs := by
  cases rd <;> cases rs <;> simp [movCopy8]

/-- Each destination has three opcodes, so a source above the destination moves down one place. -/
theorem toNat_opcode_movCopy8 (rd rs : GReg) (i : Instr) (copy : movCopy8 rd rs = some i) :
    i.opcode.toNat = 0x0D + 3 * rd.num + (if rs.num < rd.num then rs.num else rs.num - 1) := by
  cases rd <;> cases rs <;> cases copy <;> rfl

theorem toNat_opcode_movLoadIdx8 (r : GReg) (b : BaseReg) (d : Byte) :
    (movLoadIdx8 r b d).opcode.toNat = 0x31 + 3 * r.num + b.num := by
  cases r <;> cases b <;> rfl

theorem toNat_opcode_movStoreIdx8 (b : BaseReg) (r : GReg) (d : Byte) :
    (movStoreIdx8 b r d).opcode.toNat = 0x3D + 3 * r.num + b.num := by
  cases r <;> cases b <;> rfl

/-! ### Word moves -/

theorem toNat_opcode_movImm16 (w : WReg) (x : Word) : (movImm16 w x).opcode.toNat = 0x19 + w.num := by
  cases w <;> rfl

theorem toNat_opcode_movLoad16 (w : WReg) (a : Word) : (movLoad16 w a).opcode.toNat = 0x1D + w.num := by
  cases w <;> rfl

theorem toNat_opcode_movStore16 (w : WReg) (a : Word) : (movStore16 w a).opcode.toNat = 0x21 + w.num := by
  cases w <;> rfl

/-- The only word copies left out are those of a register to itself. -/
theorem movCopy16_eq_none_iff (wd ws : WReg) : movCopy16 wd ws = none ↔ wd = ws := by
  cases wd <;> cases ws <;> simp [movCopy16]

/-- As for bytes, a source above the destination moves down one place. -/
theorem toNat_opcode_movCopy16 (wd ws : WReg) (i : Instr) (copy : movCopy16 wd ws = some i) :
    i.opcode.toNat = 0x25 + 3 * wd.num + (if ws.num < wd.num then ws.num else ws.num - 1) := by
  cases wd <;> cases ws <;> cases copy <;> rfl

theorem toNat_opcode_movLoadIdx16 (w : IndexReg) (d : Byte) : (movLoadIdx16 w d).opcode.toNat = 0x49 + w.num := by
  cases w <;> rfl

theorem toNat_opcode_movStoreIdx16 (w : IndexReg) (d : Byte) : (movStoreIdx16 w d).opcode.toNat = 0x4B + w.num := by
  cases w <;> rfl

/-! ### Stack and conditional jumps -/

theorem toNat_opcode_push8 (r : GReg) : (push8 r).opcode.toNat = 0x50 + r.num := by
  cases r <;> rfl

theorem toNat_opcode_pop8 (r : GReg) : (pop8 r).opcode.toNat = 0x54 + r.num := by
  cases r <;> rfl

theorem toNat_opcode_push16 (b : BaseReg) : (push16 b).opcode.toNat = 0x58 + b.num := by
  cases b <;> rfl

theorem toNat_opcode_pop16 (b : BaseReg) : (pop16 b).opcode.toNat = 0x5B + b.num := by
  cases b <;> rfl

theorem toNat_opcode_jumpIf (c : Branch) (t : Word) : (jumpIf c t).opcode.toNat = 0x61 + c.num := by
  cases c <;> rfl

/-! ### ALU operations and channels -/

theorem toNat_opcode_aluReg (k : BinaryOp) (p : RegPair) : (aluReg k p).opcode.toNat = 0x70 + 6 * k.num + p.num := by
  cases k <;> cases p <;> rfl

theorem toNat_opcode_aluImm (k : BinaryOp) (r : GReg) (v : Byte) :
    (aluImm k r v).opcode.toNat = 0xA0 + 4 * k.num + r.num := by
  cases k <;> cases r <;> rfl

theorem toNat_opcode_aluUnary (u : UnaryOp) (r : GReg) : (aluUnary u r).opcode.toNat = 0xC0 + 4 * u.num + r.num := by
  cases u <;> cases r <;> rfl

theorem toNat_opcode_input (r : GReg) (ch : Port) : (input r ch).opcode.toNat = 0xE0 + 2 * r.num + ch.num := by
  cases r <;> cases ch <;> rfl

theorem toNat_opcode_output (ch : Port) (r : GReg) : (output ch r).opcode.toNat = 0xE8 + 2 * r.num + ch.num := by
  cases r <;> cases ch <;> rfl

/-- Settles O3, family by family; the instructions without a register field have their opcode written in `encode`. -/
theorem opcodeNumbersFollowFormulas : Obligations.OpcodeNumbersFollowFormulas := by
  refine ⟨toNat_opcode_movImm8, toNat_opcode_movLoad8, toNat_opcode_movStore8, toNat_opcode_movCopy8,
    movCopy8_eq_none_iff, toNat_opcode_movImm16, toNat_opcode_movLoad16, toNat_opcode_movStore16,
    toNat_opcode_movCopy16, movCopy16_eq_none_iff, toNat_opcode_movLoadIdx8, toNat_opcode_movStoreIdx8,
    toNat_opcode_movLoadIdx16, toNat_opcode_movStoreIdx16, toNat_opcode_push8, toNat_opcode_pop8,
    toNat_opcode_push16, toNat_opcode_pop16, ?pushf, ?popf, ?jmp, toNat_opcode_jumpIf, ?call, ?ret,
    toNat_opcode_aluReg, toNat_opcode_aluImm, toNat_opcode_aluUnary, toNat_opcode_input, toNat_opcode_output,
    ?nop, ?hlt⟩
  case jmp | call => exact fun _ => rfl
  case pushf | popf | ret | nop | hlt => rfl

end Sys2Proof.Instr
end

section
/-! PROOFS. A well-formed step has a defined effect: no phase of its cycle raises InvalidMicroCode (30_encoding.md R105,
40_bus_transactions.md R145 to R170). With it the host's `cycle(step)` (R173). -/

namespace Sys2Proof.Step

/-! ### What the checks of R105 say of the sides of a step -/

theorem wellFormed_iff (st : Step) :
    st.wellFormed = true ↔ st.wfOther = true ∧ st.wfEnds = true ∧ st.wfXdataGet = true ∧ st.wfXdataPut = true ∧
      st.wfAluOp = true ∧ st.wfAdjust = true ∧ st.wfXaddrRegs = true ∧ st.wfXaddrFlags = true ∧ st.wfIo = true := by
  simp only [wellFormed, Bool.and_eq_true, and_assoc]

section
variable {st : Step}

theorem xdata_get_isData (wf : st.wellFormed = true) (kind : st.kind = .xdata) : st.get.isData = true := by
  obtain ⟨-, -, get, -⟩ := (wellFormed_iff st).mp wf
  simpa [wfXdataGet, kind] using get

/-- The ALU is put only with an operation that has a meaning. -/
theorem xdata_put_cases (wf : st.wellFormed = true) (kind : st.kind = .xdata) :
    st.put.isData = true ∨ st.put = .alu ∧ st.opflags.toNat ≤ 0xD := by
  obtain ⟨-, -, -, put, op, -⟩ := (wellFormed_iff st).mp wf
  have data_or_alu : st.put.isData = true ∨ st.put = .alu := by simpa [wfXdataPut, kind] using put
  refine data_or_alu.imp_right fun alu => ⟨alu, ?_⟩
  simpa [wfAluOp, kind, alu] using op

/-- Without the flags port, both sides of an XADDR step are address registers. -/
theorem xaddr_isAddr (wf : st.wellFormed = true) (kind : st.kind = .xaddr) (get : st.get ≠ .alu) (put : st.put ≠ .alu) :
    st.get.isAddr = true ∧ st.put.isAddr = true := by
  obtain ⟨-, -, -, -, -, -, regs, -⟩ := (wellFormed_iff st).mp wf
  obtain ⟨sides, -⟩ : (st.get.isAddr = true ∧ st.put.isAddr = true) ∧ _ := by
    simpa [wfXaddrRegs, kind, get, put] using regs
  exact sides

/-- A byte register is the get of an XADDR step only when the flags are imported from it. -/
theorem xaddr_get_cases (wf : st.wellFormed = true) (kind : st.kind = .xaddr) :
    st.get = .alu ∨ st.get.isAddr = true ∨ st.get.isByte = true ∧ st.put = .alu := by
  obtain ⟨-, -, -, -, -, -, -, flags, -⟩ := (wellFormed_iff st).mp wf
  by_cases get : st.get = .alu
  · exact .inl get
  by_cases put : st.put = .alu
  · obtain ⟨-, byte | addr⟩ : _ ∧ (st.get.isByte = true ∨ st.get.isAddr = true) := by
      simpa [wfXaddrFlags, kind, get, put] using flags
    · exact .inr (.inr ⟨byte, put⟩)
    · exact .inr (.inl addr)
  · exact .inr (.inl (xaddr_isAddr wf kind get put).1)

theorem xaddr_put_cases (wf : st.wellFormed = true) (kind : st.kind = .xaddr) :
    st.put = .alu ∨ st.put.isAddr = true ∨ st.put.isByte = true := by
  obtain ⟨-, -, -, -, -, -, -, flags, -⟩ := (wellFormed_iff st).mp wf
  by_cases put : st.put = .alu
  · exact .inl put
  by_cases get : st.get = .alu
  · obtain ⟨-, register⟩ : _ ∧ (st.put.isByte = true ∨ st.put.isAddr = true) := by
      simpa [wfXaddrFlags, kind, get, put] using flags
    exact .inr register.symm
  · exact .inr (.inl (xaddr_isAddr wf kind get put).2)

theorem io_cases (wf : st.wellFormed = true) (kind : st.kind = .io) :
    st.opflags = OpFlags.ioIn ∧ st.put.isData = true ∨ st.opflags = OpFlags.ioOut ∧ st.get.isData = true := by
  obtain ⟨-, -, -, -, -, -, -, -, io⟩ := (wellFormed_iff st).mp wf
  simpa [wfIo, kind] using io

end

end Sys2Proof.Step

namespace Sys2Proof.Machine

open Sys2Proof

/-! ### Outcomes with a defined effect -/

/-- The outcome is anything but InvalidMicroCode. -/
def DefinedEffect : Out → Prop
  | .next _ => True
  | .fault f => f.code ≠ .invalidMicroCode
  | .refused _ => True

@[simp] theorem definedEffect_next (s : State) : DefinedEffect (.next s) := trivial
@[simp] theorem definedEffect_refused (r : Refusal) : DefinedEffect (.refused r) := trivial

@[simp] theorem definedEffect_protectedMemory (s : State) : DefinedEffect (raise .protectedMemory s) :=
  show ErrorCode.protectedMemory ≠ .invalidMicroCode by decide

@[simp] theorem definedEffect_invalidComponentID (s : State) : DefinedEffect (raise .invalidComponentID s) :=
  show ErrorCode.invalidComponentID ≠ .invalidMicroCode by decide

theorem DefinedEffect.andThen {o : Out} {f : State → Out} (first : DefinedEffect o)
    (rest : ∀ t, DefinedEffect (f t)) : DefinedEffect (Machine.andThen o f) := by
  cases o with
  | next t => exact rest t
  | fault e => exact first
  | refused r => trivial

/-! ### The components -/

theorem driveMem_defined (f : OpFlags) (b : Option Byte) (s : State) : DefinedEffect (driveMem f b s) := by
  simp only [driveMem]
  split <;> simp

theorem latchMem_defined (f : OpFlags) (s : State) : DefinedEffect (latchMem f s) := by
  simp only [latchMem]
  split <;> simp

theorem channelInput_defined (ch : Fin 16) (s : State) : DefinedEffect (channelInput ch s) := by
  simp only [channelInput]
  split
  · split <;> simp
  · simp

theorem channelOutput_defined (ch : Fin 16) (s : State) : DefinedEffect (channelOutput ch s) := by
  simp only [channelOutput]
  split <;> simp

/-- The codes up to 0xD name every operation but WADD and WSUB (41_alu.md R181). -/
theorem ofCode_not_wide {f : OpFlags} (h : f.toNat ≤ 0xD) : AluOp.ofCode f ≠ .wadd ∧ AluOp.ofCode f ≠ .wsub := by
  revert f
  decide

/-- Only WADD and WSUB are without a result (41_alu.md R198). -/
theorem aluRaw_eq_none_iff (op : AluOp) (l r : Byte) (c : Bool) :
    aluRaw op l r c = none ↔ op = .wadd ∨ op = .wsub := by
  cases op <;> simp [aluRaw]

theorem aluOperate_defined {op : AluOp} (h : op ≠ .wadd ∧ op ≠ .wsub) (s : State) :
    DefinedEffect (aluOperate op s) := by
  simp only [aluOperate]
  split
  case h_1 => trivial
  case h_2 noResult => exact absurd ((aluRaw_eq_none_iff ..).mp noResult) (not_or.mpr h)

/-! ### The sides -/

section
variable {st : Step}

theorem driveByteSide_defined (data : st.get.isData = true) (b : Option Byte) (s : State) :
    DefinedEffect (driveByteSide st b s) := by
  cases get : st.get with
  | byte r | addr r => simp [driveByteSide, get]
  | mem => simpa [driveByteSide, get] using driveMem_defined ..
  | alu | none => simp [get, CompId.isData, CompId.isByte, CompId.isAddr] at data

theorem latchByteSide_defined (data : st.put.isData = true) (s : State) : DefinedEffect (latchByteSide st s) := by
  cases put : st.put with
  | byte r | addr r => simp [latchByteSide, put]
  | mem => simpa [latchByteSide, put] using latchMem_defined ..
  | alu | none => simp [put, CompId.isData, CompId.isByte, CompId.isAddr] at data

theorem latchByteSide_alu (kind : st.kind = .xdata) (put : st.put = .alu) (s : State) :
    latchByteSide st s = aluOperate (.ofCode st.opflags) s := by
  simp [latchByteSide, put, kind]

theorem driveWordSide_defined
    (sides : st.get = .alu ∨ st.get.isAddr = true ∨ st.get.isByte = true ∧ st.put = .alu) (s : State) :
    DefinedEffect (driveWordSide st s) := by
  cases get : st.get with
  | alu => simp [driveWordSide, get]
  | addr r => cases put : st.put <;> simp [driveWordSide, get, put]
  | byte r =>
    have put : st.put = .alu := by simpa [get, CompId.isAddr, CompId.isByte] using sides
    simp [driveWordSide, get, put]
  | mem | none => simp [get, CompId.isAddr, CompId.isByte] at sides

theorem latchWordSide_defined (side : st.put = .alu ∨ st.put.isAddr = true ∨ st.put.isByte = true) (s : State) :
    DefinedEffect (latchWordSide st s) := by
  cases put : st.put with
  | alu | addr r | byte r => simp [latchWordSide, put]
  | mem | none => simp [put, CompId.isAddr, CompId.isByte] at side

/-! ### The phases and the cycle of a well-formed step -/

theorem risingEdge_defined (wf : st.wellFormed = true) (b : Option Byte) (s : State) :
    DefinedEffect (risingEdge st b s) := by
  cases kind : st.kind with
  | xdata => simpa [risingEdge, kind] using driveByteSide_defined (st.xdata_get_isData wf kind) b s
  | xaddr => simpa [risingEdge, kind] using driveWordSide_defined (st.xaddr_get_cases wf kind) s
  | io =>
    rcases st.io_cases wf kind with ⟨isIn, -⟩ | ⟨isOut, data⟩
    · simpa [risingEdge, kind, isIn] using channelInput_defined ..
    · simpa [risingEdge, kind, isOut, OpFlags.ioOut, OpFlags.ioIn] using driveByteSide_defined data none s
  | other => simp [risingEdge, kind]

theorem highClock_defined (wf : st.wellFormed = true) (s : State) : DefinedEffect (highClock st s) := by
  cases kind : st.kind with
  | xdata =>
    suffices DefinedEffect (latchByteSide st s) by simpa [highClock, kind]
    rcases st.xdata_put_cases wf kind with data | ⟨put, op⟩
    · exact latchByteSide_defined data s
    · rw [latchByteSide_alu kind put]
      exact aluOperate_defined (ofCode_not_wide op) s
  | xaddr => simpa [highClock, kind] using latchWordSide_defined (st.xaddr_put_cases wf kind) s
  | io =>
    rcases st.io_cases wf kind with ⟨isIn, data⟩ | ⟨isOut, -⟩
    · simpa [highClock, kind, isIn] using latchByteSide_defined data s
    · simpa [highClock, kind, isOut, OpFlags.ioOut, OpFlags.ioIn] using channelOutput_defined ..
  | other => simp [highClock, kind]

/-- A cycle of a well-formed step never raises InvalidMicroCode. -/
theorem cycle_defined (wf : st.wellFormed = true) (b : Option Byte) (s : State) :
    DefinedEffect (cycle st false b s) :=
  (risingEdge_defined wf b _).andThen (highClock_defined wf)

/-! ### The host's `cycle(step)` -/

theorem hostCycle_of_illFormed (ill : st.wellFormed = false) (s : State) :
    hostCycle st s = .done .invalidMicroCode s := by
  simp [hostCycle, ill]

theorem hostCycle_of_wellFormed (wf : st.wellFormed = true) (s : State) :
    hostCycle st s = hostResult (cycle st false none s) := by
  simp [hostCycle, wf]

end

/-- What the host sees of a quiet outcome is quiet. -/
theorem QuietOut.of_hostResult {s t : State} {o : Out} {e : ErrorCode} (quiet : QuietOut s o)
    (h : hostResult o = .done e t) : Quiet s t := by
  cases o with
  | next u => cases h; exact quiet
  | fault f => cases h; exact quiet
  | refused r => cases h

/-- The host's cycle works beside the controller, whatever the step (40_bus_transactions.md R173). -/
theorem hostCycle_quiet {st : Step} {s t : State} {e : ErrorCode} (h : hostCycle st s = .done e t) : Quiet s t := by
  cases wf : st.wellFormed with
  | false =>
    cases (hostCycle_of_illFormed wf s).symm.trans h
    exact .refl s
  | true => exact (cycle_quiet st false none s).of_hostResult ((hostCycle_of_wellFormed wf s).symm.trans h)

/-- Settles O25: the step's check decides between refusing and running one cycle; that a cycle of a well-formed step has a
defined effect keeps the two kinds of answer apart. -/
theorem hostCycle_runs_one_transaction : Obligations.HostCycle := by
  intro st s
  refine ⟨fun ill => hostCycle_of_illFormed ill s, ?completes, ?raises, ?frame⟩
  case completes =>
    intro t wf run
    rw [hostCycle_of_wellFormed wf, run, hostResult]
  case raises =>
    intro f wf run
    have defined := cycle_defined wf none s
    rw [run] at defined
    rw [hostCycle_of_wellFormed wf, run, hostResult]
    exact ⟨rfl, defined⟩
  case frame =>
    intro e t h
    have quiet := hostCycle_quiet h
    exact ⟨quiet.control, quiet.count⟩

end Sys2Proof.Machine
end

section
/-! PROOFS. An ALU operation (41_alu.md): where it leads and what it leaves, V as R199 gives it, the unary operations as
arithmetic (R191 to R194, R196, R197), and the two codes that have no operation (R198). -/

namespace Sys2Proof.Machine

open Sys2Proof

/-! ### Where an operation leads -/

/-- The state after an operation whose raw result is `raw` (41_alu.md R182). -/
def State.afterAlu (op : AluOp) (raw : BitVec 9) (s : State) : State :=
  let t := { s with regs := { s.regs with rhs := s.bus.data }
                    flags := aluFlags op s.regs.lhs s.bus.data raw s.flags }
  if op = .cmp then t else t.latchByte .lhs (aluResult raw)

theorem aluOperate_of_aluRaw {op : AluOp} {s : State} {raw : BitVec 9}
    (h : aluRaw op s.regs.lhs s.bus.data s.flags.c = some raw) : aluOperate op s = .next (s.afterAlu op raw) := by
  simp only [aluOperate, h, State.afterAlu]

theorem aluOperate_of_wide {op : AluOp} (wide : op = .wadd ∨ op = .wsub) (s : State) :
    aluOperate op s = .fault (.invalidMicroCode s) := by
  simp only [aluOperate, (aluRaw_eq_none_iff op _ _ _).mpr wide, raise]

/-- An operation that completes has a raw result and leads to the state it gives. -/
theorem aluOperate_eq_next {op : AluOp} {s t : State} (h : aluOperate op s = .next t) :
    ∃ raw, t = s.afterAlu op raw := by
  cases result : aluRaw op s.regs.lhs s.bus.data s.flags.c with
  | some raw => exact ⟨raw, by simpa [aluOperate_of_aluRaw result] using h.symm⟩
  | none =>
    rw [aluOperate_of_wide ((aluRaw_eq_none_iff ..).mp result)] at h
    cases h

section
variable (op : AluOp) (raw : BitVec 9) (s : State)

@[simp] theorem State.afterAlu_flags :
    (s.afterAlu op raw).flags = aluFlags op s.regs.lhs s.bus.data raw s.flags := by
  simp only [afterAlu]
  split <;> rfl

/-- Only CMP writes no LHS (41_alu.md R195). -/
theorem State.afterAlu_regs (writes : op ≠ .cmp) :
    (s.afterAlu op raw).regs = { s.regs with lhs := aluResult raw, rhs := s.bus.data } := by
  simp only [afterAlu, if_neg writes]
  rfl

@[simp] theorem State.afterAlu_mem : (s.afterAlu op raw).mem = s.mem := by
  simp only [afterAlu]
  split <;> rfl

theorem State.afterAlu_undisturbed : Undisturbed s (s.afterAlu op raw) := by
  simp only [afterAlu]
  split <;> exact ⟨rfl, rfl, rfl, rfl⟩

end

/-! ### Overflow -/

/-- The formula of ADD and ADC on the sign bits as a property of them (41_alu.md R199). -/
theorem overflow_add_iff (l r res : Byte) :
    overflow .add l r res = true ↔ l.msb = r.msb ∧ res.msb ≠ l.msb := by
  simp [overflow]

/-- The formula of SUB and SBB on the sign bits as a property of them (41_alu.md R199). -/
theorem overflow_sub_iff (l r res : Byte) :
    overflow .sub l r res = true ↔ l.msb ≠ r.msb ∧ res.msb ≠ l.msb := by
  simp [overflow]

theorem aluFlags_v_of_writesV {op : AluOp} (writes : op.writesV = true) (l r : Byte) (raw : BitVec 9) (old : Flags) :
    (aluFlags op l r raw old).v = overflow op l r (aluResult raw) := if_pos writes

theorem aluFlags_v_of_keepsV {op : AluOp} (keeps : op.writesV = false) (l r : Byte) (raw : BitVec 9) (old : Flags) :
    (aluFlags op l r raw old).v = old.v := if_neg (Bool.eq_false_iff.mp keeps)

/-- Settles O29, operation by operation: ADC shares the formula of ADD and SBB that of SUB; the others do not write V. -/
theorem overflowRule : Obligations.OverflowRule := by
  intro op s t run
  obtain ⟨raw, rfl⟩ := aluOperate_eq_next run
  rw [State.afterAlu_flags]
  cases op with
  | add | adc =>
    rw [aluFlags_v_of_writesV rfl, State.afterAlu_regs _ _ _ (by decide)]
    exact overflow_add_iff ..
  | sub | sbb =>
    rw [aluFlags_v_of_writesV rfl, State.afterAlu_regs _ _ _ (by decide)]
    exact overflow_sub_iff ..
  | and | or | xor | not | shl | shr | clr | cmp | inc | dec | wadd | wsub => exact aluFlags_v_of_keepsV rfl ..

/-! ### The unary operations as arithmetic -/

/-- The raw result of a unary operation as a number below 2^9; DEC counts down modulo 2^9 (41_alu.md R183). -/
def unaryRaw (u : UnaryOp) (r : Byte) : Nat :=
  match u with
  | .not => 255 - r.toNat
  | .shl => 2 * r.toNat
  | .shr => r.toNat / 2
  | .clr => 0
  | .inc => r.toNat + 1
  | .dec => (511 + r.toNat) % 512

/-- The operand is the byte on the bus: neither LHS nor the carry matters. -/
theorem aluRaw_unary (u : UnaryOp) (l r : Byte) (cin : Bool) :
    ∃ raw, aluRaw u.alu l r cin = some raw ∧ raw.toNat = unaryRaw u r := by
  have bound : r.toNat < 256 := r.isLt
  cases u with
  | not => exact ⟨_, rfl, by rw [raw9_toNat, BitVec.toNat_not, unaryRaw]⟩
  | shl => exact ⟨_, rfl, by rw [BitVec.toNat_shiftLeft, raw9_toNat, Nat.shiftLeft_eq, unaryRaw]; omega⟩
  | shr => exact ⟨_, rfl, by rw [raw9_toNat, BitVec.toNat_ushiftRight, Nat.shiftRight_eq_div_pow, unaryRaw]⟩
  | clr => exact ⟨_, rfl, rfl⟩
  | inc => exact ⟨_, rfl, by rw [BitVec.toNat_add, raw9_toNat]; exact Nat.mod_eq_of_lt (show r.toNat + 1 < 512 by omega)⟩
  | dec => exact ⟨_, rfl, by rw [BitVec.toNat_sub, raw9_toNat]; rfl⟩

/-- The result is the low byte of the raw result (41_alu.md R182). -/
theorem unaryResult_toNat (u : UnaryOp) (r : Byte) : (unaryResult u r).toNat = unaryRaw u r % 256 := by
  cases u with
  | not | shl | shr | inc => exact BitVec.toNat_ofNat ..
  | clr => rfl
  | dec =>
    simp only [unaryResult, unaryRaw, BitVec.toNat_ofNat]
    omega

/-- A unary operation carries out when its raw result does not fit in a byte (41_alu.md R183). -/
theorem unaryFlags_c (u : UnaryOp) (r : Byte) (f : Flags) : (unaryFlags u r f).c = decide (256 ≤ unaryRaw u r) := by
  have bound : r.toNat < 256 := r.isLt
  cases u with
  | not | shr | clr => exact (decide_eq_false (by simp only [unaryRaw]; omega)).symm
  | shl | inc | dec => exact decide_eq_decide.mpr (by simp only [unaryRaw]; omega)

section
variable {u : UnaryOp} {r : Byte} {raw : BitVec 9}

theorem aluResult_of_unaryRaw (h : raw.toNat = unaryRaw u r) : aluResult raw = unaryResult u r := by
  apply BitVec.eq_of_toNat_eq
  rw [unaryResult_toNat, ← h]
  exact BitVec.toNat_setWidth ..

theorem aluFlags_of_unaryRaw (h : raw.toNat = unaryRaw u r) (l : Byte) (f : Flags) :
    aluFlags u.alu l r raw f = unaryFlags u r f := by
  have carry : raw.getLsbD 8 = (unaryFlags u r f).c := by rw [raw_bit8, h, unaryFlags_c]
  have keepsV : u.alu.writesV = false := by cases u <;> rfl
  simp only [aluFlags, aluResult_of_unaryRaw h, carry, keepsV]
  rfl

end

/-- Settles O27: the cycle drives the register and operates; the raw result is that of the arithmetic. -/
theorem aluUnaryStep : Obligations.AluUnaryStep := by
  intro u x s
  obtain ⟨raw, hasRaw, value⟩ := aluRaw_unary u s.regs.lhs (s.regs.getByte x) s.flags.c
  have writes : u.alu ≠ .cmp := by cases u <;> decide
  have run := cycle_byte_alu x u.alu.code false none s
  rw [AluOp_ofCode_code, aluOperate_of_aluRaw hasRaw] at run
  refine ⟨_, run, ?regs, ?flags, State.afterAlu_undisturbed .., State.afterAlu_mem ..⟩
  case regs =>
    rw [State.afterAlu_regs _ _ _ writes, aluResult_of_unaryRaw value]
    rfl
  case flags =>
    rw [State.afterAlu_flags]
    exact aluFlags_of_unaryRaw value ..

/-! ### The codes without an operation -/

/-- A well-formed ALU operation step selects an operation that has a meaning (30_encoding.md R105). -/
theorem not_wide_of_wellFormed {st : Step} (wf : st.wellFormed = true) (kind : st.kind = .xdata) (put : st.put = .alu) :
    AluOp.ofCode st.opflags ≠ .wadd ∧ AluOp.ofCode st.opflags ≠ .wsub := by
  rcases st.xdata_put_cases wf kind with data | ⟨-, code⟩
  · rw [put] at data
    cases data
  · exact ofCode_not_wide code

/-- Every entry of the default table is well formed (30_encoding.md R106). -/
theorem microcode_wellFormed (i : Instr) : (microcode i).wellFormed = true := by
  cases i <;> rfl

theorem step_wellFormed_of_entry {e : Entry} {st : Step} (wf : e.wellFormed = true) (mem : st ∈ e.steps) :
    st.wellFormed = true := by
  simp only [Entry.wellFormed, Bool.and_eq_true, and_assoc] at wf
  obtain ⟨steps, -⟩ := wf
  exact List.all_eq_true.mp steps st mem

/-- Settles O28: the check of R105 excludes both codes, and the default table passes it; the ALU has no result for them. -/
theorem wideOperationsRaise : Obligations.WideOperationsRaise := by
  refine ⟨fun g d op s wide => ⟨?illFormed, ?raises⟩, fun i st mem kind put => ?unused⟩
  case illFormed =>
    refine Bool.eq_false_iff.mpr fun wf => ?_
    obtain ⟨notWadd, notWsub⟩ := not_wide_of_wellFormed wf rfl rfl
    rw [AluOp_ofCode_code] at notWadd notWsub
    exact wide.elim notWadd notWsub
  case raises =>
    rw [highClock, latchByteSide_alu rfl rfl, AluOp_ofCode_code]
    exact aluOperate_of_wide wide s
  case unused =>
    obtain ⟨notWadd, notWsub⟩ :=
      not_wide_of_wellFormed (step_wellFormed_of_entry (microcode_wellFormed i) mem) kind put
    exact ⟨fun code => notWadd (code ▸ AluOp_ofCode_code _), fun code => notWsub (code ▸ AluOp_ofCode_code _)⟩

end Sys2Proof.Machine
end

section
/-! PROOFS. The two ends of an instruction (42_controller.md): the opcode fetch with the decode errors after it (R226, R241),
and retire, which counts and reports once, or the error that does neither (R240, R242, R251, R262). -/

namespace Sys2Proof.OpcodeForm

/-- The entry of the instruction that an opcode selects, if any, with 0 as its operand. -/
def entry : OpcodeForm → Option Entry
  | .plain i => some (Machine.microcode i)
  | .byteOperand mk => some (Machine.microcode (mk 0))
  | .wordOperand mk => some (Machine.microcode (mk 0))
  | .unassigned => none

theorem eq_unassigned_of_no_entry {form : OpcodeForm} (h : form.entry = none) : form = .unassigned := by
  cases form with
  | unassigned => rfl
  | plain i | byteOperand mk | wordOperand mk => cases h

theorem wellFormed_of_entry {form : OpcodeForm} {e : Entry} (h : form.entry = some e) : e.wellFormed = true := by
  cases form with
  | plain i | byteOperand mk | wordOperand mk =>
    cases h
    exact Machine.microcode_wellFormed _
  | unassigned => cases h

end Sys2Proof.OpcodeForm

namespace Sys2Proof.Machine

open Sys2Proof

/-! ### The opcode map, as the table and as the decoder hold it -/

theorem entryRow_eq_map_entry : ∀ row : Nat, entryRow row = (opcodeRow row).map OpcodeForm.entry
  | 0 | 1 | 2 | 3 | 4 | 5 | 6 | 7 | 8 | 9 | 10 | 11 | 12 | 13 | 14 | 15 => rfl
  | _ + 16 => rfl

/-- The table and the decoder hold one opcode map (30_encoding.md R120). -/
theorem defaultEntry_eq_entry (op : Byte) : defaultEntry op = (opcodeForm op).entry := by
  rw [defaultEntry, opcodeForm, entryRow_eq_map_entry, List.getElem?_map]
  cases (opcodeRow (op.toNat / 16))[op.toNat % 16]? <;> rfl

/-- Every entry of the default table is well formed (30_encoding.md R106). -/
theorem defaultEntry_wellFormed {op : Byte} {e : Entry} (h : defaultEntry op = some e) : e.wellFormed = true :=
  OpcodeForm.wellFormed_of_entry ((defaultEntry_eq_entry op).symm.trans h)

theorem decode_of_no_entry {op : Byte} (h : defaultEntry op = none) (rest : List Byte) :
    decode (op :: rest) = .error (.unassigned op) := by
  have form : opcodeForm op = .unassigned :=
    OpcodeForm.eq_unassigned_of_no_entry ((defaultEntry_eq_entry op).symm.trans h)
  simp only [decode, form]

/-! ### Nothing retired -/

theorem NothingRetired.trans {s t u : State} (first : NothingRetired s t) (second : NothingRetired t u) :
    NothingRetired s u := by
  obtain ⟨count₁, told₁, events₁, silent₁⟩ := first
  obtain ⟨count₂, told₂, events₂, silent₂⟩ := second
  refine ⟨count₂.trans count₁, told₂ ++ told₁, by rw [events₂, events₁, List.append_assoc], fun m told => ?_⟩
  exact (List.mem_append.mp told).elim (silent₂ m) (silent₁ m)

/-- Where the controller stands does not matter to `NothingRetired`. -/
theorem NothingRetired.withControl {s t : State} (h : NothingRetired s t) (c : Control) :
    NothingRetired s { t with control := c } := h

theorem Quiet.nothingRetired {s t : State} (quiet : Quiet s t) : NothingRetired s t := ⟨quiet.count, quiet.told⟩

@[simp] theorem Fault.left_mapLeft (f : State → State) (e : Fault) : (e.mapLeft f).left = f e.left := by
  cases e <;> rfl

/-- The state an outcome has, if any, has nothing retired since `s`. -/
def UnretiredOut (s : State) : Out → Prop
  | .next t => NothingRetired s t
  | .fault e => NothingRetired s e.left
  | .refused _ => True

theorem UnretiredOut.andThen {s : State} {o : Out} {f : State → Out} (first : UnretiredOut s o)
    (rest : ∀ t, NothingRetired s t → UnretiredOut s (f t)) : UnretiredOut s (Machine.andThen o f) := by
  cases o with
  | next t => exact rest t first
  | fault e => exact first
  | refused r => trivial

/-- A cycle retires nothing. The start `s` stays apart from the cycle's own start `t`, since the sequencer moves the
controller between two cycles and a chain of `Quiet` steps would not allow that. -/
theorem cycle_unretired {s t : State} (before : NothingRetired s t) (st : Step) (sup : Bool) (b : Option Byte) :
    UnretiredOut s (cycle st sup b t) := by
  have quiet := cycle_quiet st sup b t
  cases run : cycle st sup b t with
  | next u | fault e =>
    rw [run] at quiet
    exact before.trans quiet.nothingRetired
  | refused r => trivial

theorem fetchOpcode_unretired (b : Option Byte) (s : State) : UnretiredOut s (fetchOpcode b s) :=
  (cycle_unretired (Quiet.refl s).nothingRetired ..).andThen fun _ first =>
    cycle_unretired (first.withControl _) ..

/-! ### Retire -/

/-- The outcome retires the entry since `s`: if it completes, the entry's cost is counted, its mnemonic is the one reported,
last, and the controller is between instructions (42_controller.md R240); if it raises, nothing was retired (R242). -/
def RetiresOnceOut (e : Entry) (s : State) : Out → Prop
  | .next t => t.count = s.count + cost e ∧ t.control = .fetchOpcode1 ∧
      ∃ told, t.events = .retired e.mnemonic :: (told ++ s.events) ∧ ∀ m, .retired m ∉ told
  | .fault f => NothingRetired s f.left
  | .refused _ => True

/-- Retire after cycles that retired nothing. -/
theorem retire_retiresOnce {s t : State} (before : NothingRetired s t) (e : Entry) :
    RetiresOnceOut e s (.next (retire e t)) := by
  obtain ⟨count, told, events, silent⟩ := before
  exact ⟨by rw [retire_count, count], retire_control e t, told, by rw [retire_events, events], silent⟩

theorem UnretiredOut.andThen_retiresOnce {e : Entry} {s : State} {o : Out} {f : State → Out} (first : UnretiredOut s o)
    (rest : ∀ t, NothingRetired s t → RetiresOnceOut e s (f t)) : RetiresOnceOut e s (Machine.andThen o f) := by
  cases o with
  | next t => exact rest t first
  | fault e => exact first
  | refused r => trivial

/-- Taking the error moves the controller only. -/
theorem RetiresOnceOut.takeError {e : Entry} {s : State} {o : Out} (h : RetiresOnceOut e s o) :
    RetiresOnceOut e s (Machine.takeError o) := by
  cases o with
  | next t => exact h
  | fault f =>
    rw [takeError_fault, RetiresOnceOut, Fault.left_mapLeft]
    exact h
  | refused r => trivial

theorem runCycles_retiresOnce {s t : State} (before : NothingRetired s t) (e : Entry)
    (cs : List (Step × Option Byte)) (k : Nat) : RetiresOnceOut e s (runCycles e cs k t) := by
  induction cs generalizing k t with
  | nil => exact retire_retiresOnce before e
  | cons c rest ih =>
    obtain ⟨st, b⟩ := c
    rw [runCycles_cons]
    exact (cycle_unretired before ..).andThen_retiresOnce fun _ after => ih (after.withControl _) _

theorem runBody_retiresOnce {s t : State} (before : NothingRetired s t) (e : Entry) (bytes : List Byte) :
    RetiresOnceOut e s (runBody e bytes t) :=
  runCycles_retiresOnce (before.withControl _) ..

theorem runEntry_retiresOnce (e : Entry) (bytes : List Byte) (s : State) : RetiresOnceOut e s (runEntry e bytes s) :=
  ((fetchOpcode_unretired bytes.head? s).andThen_retiresOnce fun _ fetched =>
    runBody_retiresOnce fetched e bytes.tail).takeError

/-- Settles O16: every meaning is the run of its entry, whose only retire is at the end of its cycle list. -/
theorem retireCountsAndReports : Obligations.RetireCountsAndReports := by
  intro i s
  have once : RetiresOnceOut (microcode i) s (exec i s) := exec_eq_runEntry i s ▸ runEntry_retiresOnce ..
  refine ⟨fun t completes => ?_, fun f raises => ?_⟩
  · rw [completes] at once
    exact once
  · rw [raises] at once
    exact once

/-! ### The opcode fetch of a mapped opcode -/

/-- The state after the two fetch cycles of the opcode byte `op` (42_controller.md R226). -/
def AfterOpcodeFetch (s : State) (op : Byte) (t : State) : Prop :=
  t.regs = fetchedRegs op s.regs ∧ t.flags = s.flags ∧ Undisturbed s t ∧ MemorySame s t ∧ NothingRetired s t

/-- The decode check looks up the opcode that was fetched, in the table as it was. -/
theorem AfterOpcodeFetch.tableEntry {s t : State} {op : Byte} (after : AfterOpcodeFetch s op t) :
    tableEntry t.table t.regs.ir = tableEntry s.table op := by
  obtain ⟨regs, -, ⟨-, -, table, -⟩, -, -⟩ := after
  rw [regs, table, fetchedRegs]

/-- The opcode fetch from memory is that of the byte mapped at PC. -/
theorem fetchOpcode_mapped {s : State} {op : Byte} (mapped : s.mem.readByte s.regs.pc.toNat = some op) :
    fetchOpcode none s = fetchOpcode (some op) s := by
  have first : cycle fetchStep1 false none s = _ := cycle_xaddr .pc .memaddr OpFlags.inc false none s
  rw [fetchOpcode, fetchOpcode, first]
  exact (cycle_fetched false mapped).symm

theorem fetchOpcode_of_mapped {s : State} {op : Byte} (mapped : s.mem.readByte s.regs.pc.toNat = some op) :
    ∃ t, fetchOpcode none s = .next t ∧ AfterOpcodeFetch s op t := by
  obtain ⟨t, run, regs, flags, mem, io, lines, table, -⟩ := fetchOpcode_stream op s
  have unretired := fetchOpcode_unretired (some op) s
  rw [run] at unretired
  exact ⟨t, (fetchOpcode_mapped mapped).trans run, regs, flags, ⟨lines, io, table, by rw [mem]⟩,
    fun x => by rw [mem], unretired⟩

/-! ### The decode errors -/

theorem decodeOpcode_of_no_entry {k : Entry → State → Out} {t : State} (h : tableEntry t.table t.regs.ir = none) :
    decodeOpcode k t = .fault (.invalidInstruction t) := by
  rw [decodeOpcode, h, raise]

theorem decodeOpcode_of_illFormed {k : Entry → State → Out} {t : State} {e : Entry}
    (h : tableEntry t.table t.regs.ir = some e) (ill : e.wellFormed = false) :
    decodeOpcode k t = .fault (.invalidMicroCode t) := by
  simp [decodeOpcode, h, ill, raise]

/-- The table has no entry that can run for the opcode. -/
def Undecodable (table : MicrocodeTable) (op : Byte) : Prop :=
  ∀ e, tableEntry table op = some e → e.wellFormed = false

/-- A host table has its cycles run one by one; the default table has a well-formed entry for every opcode the decoder
accepts. -/
theorem instructionAt_of_undecodable {s : State} {op : Byte} (between : s.control = .fetchOpcode1)
    (mapped : s.mem.readByte s.regs.pc.toNat = some op) (undecodable : Undecodable s.table op) :
    instructionAt s = none := by
  cases table : s.table with
  | host rows => simp only [instructionAt, between, table]
  | default =>
    have noEntry : defaultEntry op = none := by
      refine Option.eq_none_iff_forall_ne_some.mpr fun e entry => ?_
      have ill : e.wellFormed = false := undecodable e (by rw [table]; exact entry)
      simp [defaultEntry_wellFormed entry] at ill
    have bytes : fetchBytes s = op :: readStream s.mem 2 (s.regs.pc + 1) := by
      simp only [fetchBytes, readStream, mapped]
    simp only [instructionAt, between, table, bytes, decode_of_no_entry noEntry]

/-- A step at an undecodable opcode is the opcode fetch and the decode check. -/
theorem step_of_undecodable {s : State} {op : Byte} (running : s.lines.halt = false) (between : s.control = .fetchOpcode1)
    (mapped : s.mem.readByte s.regs.pc.toNat = some op) (undecodable : Undecodable s.table op) :
    ∃ t, step s = takeError (decodeOpcode (fun e => runBody e []) t) ∧ AfterOpcodeFetch s op t := by
  obtain ⟨t, fetch, after⟩ := fetchOpcode_of_mapped mapped
  refine ⟨t, ?_, after⟩
  simp [step, stepInstruction, halted, running, instructionAt_of_undecodable between mapped undecodable, finishInstruction,
    between, fetch]

/-- Settles O14: both errors come from the check after the opcode fetch, on the table and the IR that the fetch leaves. -/
theorem decodeErrors : Obligations.DecodeErrors := by
  intro s op running between mapped
  refine ⟨fun noEntry => ?noEntry, fun e entry ill => ?illFormed⟩
  case noEntry =>
    have undecodable : Undecodable s.table op := fun e entry => by simp [noEntry] at entry
    obtain ⟨t, run, after⟩ := step_of_undecodable running between mapped undecodable
    refine ⟨t.betweenInstructions, ?_, after⟩
    rw [run, decodeOpcode_of_no_entry (after.tableEntry.trans noEntry)]
    rfl
  case illFormed =>
    have undecodable : Undecodable s.table op := fun e' entry' => by
      cases entry.symm.trans entry'
      exact ill
    obtain ⟨t, run, after⟩ := step_of_undecodable running between mapped undecodable
    refine ⟨t.betweenInstructions, ?_, after⟩
    rw [run, decodeOpcode_of_illFormed (after.tableEntry.trans entry) ill]
    rfl

end Sys2Proof.Machine
end

section
/-! PROOFS. The binary ALU operations as arithmetic (41_alu.md R184 to R190, R195, R199), whatever drives the right operand. -/

namespace Sys2Proof.Machine

open Sys2Proof

/-! ### The raw result -/

/-- The raw result of a binary operation as a number below 2^9; a subtraction counts down modulo 2^9 (41_alu.md R183). -/
def binaryRaw (k : BinaryOp) (l r : Byte) (cin : Bool) : Nat :=
  match k with
  | .add => l.toNat + r.toNat
  | .adc => l.toNat + r.toNat + carryNat cin
  | .sub | .cmp => (512 + l.toNat - r.toNat) % 512
  | .sbb => (512 + l.toNat - r.toNat - carryNat cin) % 512
  | .and => (l &&& r).toNat
  | .or => (l ||| r).toNat
  | .xor => (l ^^^ r).toNat

theorem carry9_toNat (cin : Bool) : (carry9 cin).toNat = carryNat cin := by
  cases cin <;> rfl

theorem carryNat_le_one (cin : Bool) : carryNat cin ≤ 1 := by
  cases cin <;> decide

theorem aluRaw_binary (k : BinaryOp) (l r : Byte) (cin : Bool) :
    ∃ raw, aluRaw k.alu l r cin = some raw ∧ raw.toNat = binaryRaw k l r cin := by
  have boundL : l.toNat < 256 := l.isLt
  have boundR : r.toNat < 256 := r.isLt
  have boundC := carryNat_le_one cin
  cases k with
  | add | adc | sub | cmp | sbb =>
    refine ⟨_, rfl, ?_⟩
    simp only [BitVec.toNat_add, BitVec.toNat_sub, raw9_toNat, carry9_toNat, binaryRaw]
    omega
  | and | or | xor => exact ⟨_, rfl, raw9_toNat _⟩

/-- The result is the low byte of the raw result (41_alu.md R182). -/
theorem binaryResult_toNat (k : BinaryOp) (l r : Byte) (cin : Bool) :
    (binaryResult k l r cin).toNat = binaryRaw k l r cin % 256 := by
  have boundR : r.toNat < 256 := r.isLt
  have boundC := carryNat_le_one cin
  cases k with
  | add | adc => exact BitVec.toNat_ofNat ..
  | sub | cmp | sbb =>
    simp only [binaryResult, binaryRaw, BitVec.toNat_ofNat]
    omega
  | and | or | xor => exact (Nat.mod_eq_of_lt (BitVec.isLt _)).symm

/-- A binary operation carries or borrows when its raw result does not fit in a byte (41_alu.md R183). -/
theorem binaryCarry_eq (k : BinaryOp) (l r : Byte) (cin : Bool) :
    binaryCarry k l r cin = decide (256 ≤ binaryRaw k l r cin) := by
  have boundL : l.toNat < 256 := l.isLt
  have boundR : r.toNat < 256 := r.isLt
  have boundC := carryNat_le_one cin
  cases k with
  | add | adc | sub | cmp | sbb => exact decide_eq_decide.mpr (by simp only [binaryRaw]; omega)
  | and | or | xor => exact (decide_eq_false (Nat.not_le.mpr (BitVec.isLt (w := 8) _))).symm

/-- The overflow formulas on the sign bits as the property of them (41_alu.md R199). -/
theorem binaryOverflow_eq (k : BinaryOp) (l r res : Byte) (old : Bool) :
    binaryOverflow k l r res old = if k.alu.writesV then overflow k.alu l r res else old := by
  cases k with
  | add | adc => exact (Bool.eq_iff_iff.mpr ((overflow_add_iff l r res).trans decide_eq_true_iff.symm)).symm
  | sub | sbb => exact (Bool.eq_iff_iff.mpr ((overflow_sub_iff l r res).trans decide_eq_true_iff.symm)).symm
  | and | or | xor | cmp => rfl

section
variable {k : BinaryOp} {l r : Byte} {raw : BitVec 9}

theorem aluResult_of_binaryRaw {cin : Bool} (h : raw.toNat = binaryRaw k l r cin) :
    aluResult raw = binaryResult k l r cin := by
  apply BitVec.eq_of_toNat_eq
  rw [binaryResult_toNat, ← h]
  exact BitVec.toNat_setWidth ..

theorem aluFlags_of_binaryRaw {f : Flags} (h : raw.toNat = binaryRaw k l r f.c) :
    aluFlags k.alu l r raw f = binaryFlags k l r f := by
  simp only [aluFlags, binaryFlags, aluResult_of_binaryRaw h, raw_bit8, h, binaryCarry_eq, binaryOverflow_eq]
  rfl

end

/-- CMP says equal by Z and below by C, and keeps V (41_alu.md R195). -/
theorem binaryFlags_cmp (l r : Byte) (f : Flags) :
    binaryFlags .cmp l r f = { z := decide (l = r), c := decide (l.toNat < r.toNat), v := f.v } := by
  have boundL : l.toNat < 256 := l.isLt
  have boundR : r.toNat < 256 := r.isLt
  have equal : binaryResult .cmp l r f.c = 0 ↔ l = r := by
    rw [← BitVec.toNat_inj, ← BitVec.toNat_inj, binaryResult_toNat, binaryRaw]
    show _ = 0 ↔ _
    omega
  simp only [binaryFlags, equal]
  rfl

/-! ### The operation on the bus -/

/-- The outcome is a next state with registers `g` and flags `f`, and otherwise as `s` but for the bus, the controller, the
counter and the events. -/
def LeadsTo (o : Out) (s : State) (g : Regs) (f : Flags) : Prop :=
  ∃ t, o = .next t ∧ t.regs = g ∧ t.flags = f ∧ Undisturbed s t ∧ t.mem = s.mem

theorem BinaryOp_alu_eq_cmp_iff (k : BinaryOp) : k.alu = .cmp ↔ k = .cmp := by
  cases k <;> decide

/-- A binary operation of LHS and the byte on the data bus; only CMP writes no LHS (41_alu.md R182, R195). -/
theorem aluOperate_binary (k : BinaryOp) (s : State) :
    LeadsTo (aluOperate k.alu s) s
      { s.regs with
        lhs := if k = .cmp then s.regs.lhs else binaryResult k s.regs.lhs s.bus.data s.flags.c
        rhs := s.bus.data }
      (binaryFlags k s.regs.lhs s.bus.data s.flags) := by
  obtain ⟨raw, hasRaw, value⟩ := aluRaw_binary k s.regs.lhs s.bus.data s.flags.c
  refine ⟨_, aluOperate_of_aluRaw hasRaw, ?regs, ?flags, State.afterAlu_undisturbed .., State.afterAlu_mem ..⟩
  case flags =>
    rw [State.afterAlu_flags]
    exact aluFlags_of_binaryRaw value
  case regs =>
    by_cases compare : k = .cmp
    · subst compare
      rfl
    · rw [State.afterAlu_regs _ _ _ (mt (BinaryOp_alu_eq_cmp_iff k).mp compare), aluResult_of_binaryRaw value,
        if_neg compare]

end Sys2Proof.Machine
end

section
/-! PROOFS. Instructions whose cycles only compute: each cycle takes the registers and flags to others and leaves the rest, so
a whole instruction does, with the opcode and operand fetch before its steps (42_controller.md R225 to R228). -/

namespace Sys2Proof.Machine

open Sys2Proof

/-! ### What a cycle list computes -/

/-- From every state with registers `g` and flags `f` the cycle leads to registers `g'` and flags `f'`. -/
def CycleTakes (c : Step × Option Byte) (g : Regs) (f : Flags) (g' : Regs) (f' : Flags) : Prop :=
  ∀ s : State, s.regs = g → s.flags = f → LeadsTo (cycle c.1 false c.2 s) s g' f'

/-- The cycles, one after the other, take registers and flags as each of them does. -/
inductive CyclesTake : List (Step × Option Byte) → Regs → Flags → Regs → Flags → Prop where
  | nil (g : Regs) (f : Flags) : CyclesTake [] g f g f
  | cons {c : Step × Option Byte} {cs : List (Step × Option Byte)} {g g' g'' : Regs} {f f' f'' : Flags} :
      CycleTakes c g f g' f' → CyclesTake cs g' f' g'' f'' → CyclesTake (c :: cs) g f g'' f''

theorem Undisturbed.trans {s t u : State} (first : Undisturbed s t) (second : Undisturbed t u) : Undisturbed s u := by
  obtain ⟨lines₁, io₁, table₁, banks₁⟩ := first
  obtain ⟨lines₂, io₂, table₂, banks₂⟩ := second
  exact ⟨lines₂.trans lines₁, io₂.trans io₁, table₂.trans table₁, banks₂.trans banks₁⟩

/-- Go on from an outcome that leads somewhere. -/
theorem LeadsTo.andThen {o : Out} {k : State → Out} {s : State} {g g' : Regs} {f f' : Flags} (first : LeadsTo o s g f)
    (rest : ∀ t, t.regs = g → t.flags = f → LeadsTo (k t) t g' f') : LeadsTo (Machine.andThen o k) s g' f' := by
  obtain ⟨t, rfl, regs₁, flags₁, still₁, mem₁⟩ := first
  obtain ⟨u, run, regs₂, flags₂, still₂, mem₂⟩ := rest t regs₁ flags₁
  exact ⟨u, run, regs₂, flags₂, still₁.trans still₂, mem₂.trans mem₁⟩

/-- Running the cycles of an unconditional entry and retiring computes what the cycles do. -/
theorem CyclesTake.runCycles {cs : List (Step × Option Byte)} {g g' : Regs} {f f' : Flags} (chain : CyclesTake cs g f g' f')
    {e : Entry} (plain : e.cond = none) (index : Nat) (s : State) (regs : s.regs = g) (flags : s.flags = f) :
    LeadsTo (runCycles e cs index s) s g' f' := by
  induction chain generalizing index s with
  | nil g f => exact ⟨_, runCycles_nil .., regs, flags, ⟨rfl, rfl, rfl, rfl⟩, rfl⟩
  | @cons c cs g g₁ g' f f₁ f' first _ ih =>
    rw [runCycles_cons, suppressed_plain plain]
    exact (first s regs flags).andThen fun t regs flags => ih _ { t with control := .running e (index + 1) } regs flags

theorem fetchOpcode_leadsTo (op : Byte) (s : State) :
    LeadsTo (fetchOpcode (some op) s) s (fetchedRegs op s.regs) s.flags := by
  obtain ⟨t, run, regs, flags, mem, io, lines, table, -⟩ := fetchOpcode_stream op s
  exact ⟨t, run, regs, flags, ⟨lines, io, table, by rw [mem]⟩, mem⟩

theorem encode_eq_opcode_cons (i : Instr) : encode i = i.opcode :: (encode i).tail := by
  cases i <;> rfl

theorem encode_length (i : Instr) : (encode i).length = 1 + operandBytes (microcode i).mode := by
  cases i <;> rfl

/-- The instruction retires from `s` with registers `g` and flags `f`, its cost counted, and leaves the rest. -/
def RetiresWith (i : Instr) (n : Nat) (s : State) (g : Regs) (f : Flags) : Prop :=
  ∃ t, Retires i n s t ∧ t.regs = g ∧ t.flags = f ∧ Undisturbed s t ∧ MemorySame s t

/-- An unconditional instruction whose cycles after the opcode fetch only compute. -/
theorem retiresWith_of_cyclesTake {i : Instr} {s : State} {g : Regs} {f : Flags} (plain : (microcode i).cond = none)
    (chain : CyclesTake (bodyCycles (microcode i) (encode i).tail) (fetchedRegs i.opcode s.regs) s.flags g f) :
    RetiresWith i (cost (microcode i)) s g f := by
  have run : LeadsTo (andThen (fetchOpcode (some i.opcode) s) (runBody (microcode i) (encode i).tail)) s g f :=
    (fetchOpcode_leadsTo i.opcode s).andThen fun t regs flags =>
      chain.runCycles plain 2 { t with control := .running (microcode i) 2 } regs flags
  obtain ⟨t, completes, regs, flags, still, mem⟩ := run
  have execNext : exec i s = .next t := by
    rw [exec_eq_runEntry, runEntry, encode_eq_opcode_cons]
    exact takeError_eq_next.mpr completes
  obtain ⟨count, control, -⟩ := (retireCountsAndReports i s).1 t execNext
  exact ⟨t, ⟨execNext, count, control⟩, regs, flags, still, fun x => by rw [mem]⟩

/-! ### Single cycles -/

section
variable {g : Regs} {f : Flags} {b : Option Byte} {d : Bool}

theorem cycleTakes_byte_byte {o : OpFlags} (x y : ByteReg) :
    CycleTakes (⟨.xdata, .byte x, .byte y, o, d⟩, b) g f (g.setByte y (g.getByte x)) f := by
  rintro s rfl rfl
  exact ⟨_, cycle_byte_byte .., rfl, rfl, ⟨rfl, rfl, rfl, rfl⟩, rfl⟩

/-- The address of the next byte of the instruction stream goes to MEMADDR (42_controller.md R226, R228). -/
theorem cycleTakes_stream_address :
    CycleTakes (.xaddr (.addr .pc) (.addr .memaddr) OpFlags.inc, b) g f { g with pc := g.pc + 1, memaddr := g.pc } f := by
  rintro s rfl rfl
  exact ⟨_, cycle_xaddr .., rfl, rfl, ⟨rfl, rfl, rfl, rfl⟩, rfl⟩

/-- A byte of the instruction stream goes to the low half of TX (42_controller.md R228). -/
theorem cycleTakes_stream_tx (v : Byte) :
    CycleTakes (.xdata .mem (.addr .tx), some v) g f { g with tx := word (hi8 g.tx) v } f := by
  rintro s rfl rfl
  exact ⟨_, cycle_stream_addr .., rfl, rfl, ⟨rfl, rfl, rfl, rfl⟩, rfl⟩

theorem cycleTakes_byte_binary (k : BinaryOp) (y : ByteReg) :
    CycleTakes (⟨.xdata, .byte y, .alu, k.alu.code, d⟩, b) g f
      { g with
        lhs := if k = .cmp then g.lhs else binaryResult k g.lhs (g.getByte y) f.c
        rhs := g.getByte y }
      (binaryFlags k g.lhs (g.getByte y) f) := by
  rintro s rfl rfl
  rw [cycle_byte_alu, AluOp_ofCode_code]
  exact aluOperate_binary k _

theorem cycleTakes_addr_binary (k : BinaryOp) (y : AddrReg) :
    CycleTakes (⟨.xdata, .addr y, .alu, k.alu.code, d⟩, b) g f
      { g with
        lhs := if k = .cmp then g.lhs else binaryResult k g.lhs (lo8 (g.getWord y)) f.c
        rhs := lo8 (g.getWord y) }
      (binaryFlags k g.lhs (lo8 (g.getWord y)) f) := by
  rintro s rfl rfl
  rw [cycle_addr_alu, AluOp_ofCode_code]
  exact aluOperate_binary k _

end

/-! ### From the encoding -/

section
variable {i : Instr} {n : Nat} {subject : Option CompId} {steps : List Step} {s : State} {g : Regs} {f : Flags}

/-- An unconditional entry and the opcode number are the encoding; the length follows from the mode. -/
theorem encodedAs_of_entry {name : String} {mode : Mode} (opcode : i.opcode.toNat = n)
    (entry : microcode i = plainEntry name mode subject steps) : EncodedAs i n mode subject none steps := by
  simp only [EncodedAs, encode_length, entry, ← opcode, BitVec.ofNat_toNat, BitVec.setWidth_eq, plainEntry, and_self]

/-- With no operand, the steps start right after the opcode fetch (42_controller.md R226). -/
theorem EncodedAs.retires_implied (encoded : EncodedAs i n .implied subject none steps)
    (chain : CyclesTake (steps.map fun st => (st, none)) (fetchedFor i s.regs.pc s.regs) s.flags g f) :
    RetiresWith i (2 + steps.length) s g f := by
  obtain ⟨-, length, mode, -, cond, steps_eq, -⟩ := encoded
  have fetched : fetchedRegs i.opcode s.regs = fetchedFor i s.regs.pc s.regs := by
    rw [fetchedFor, length]
    rfl
  have body : bodyCycles (microcode i) (encode i).tail = steps.map fun st => (st, none) := by
    simp only [bodyCycles, fetchOperands, mode, steps_eq, supply, List.nil_append]
  have cycles : cost (microcode i) = 2 + steps.length := by
    rw [cost, mode, steps_eq]
    rfl
  exact cycles ▸ retiresWith_of_cyclesTake cond (by rwa [body, fetched])

/-- An immediate byte is fetched into the low half of TX, from the address past the opcode (42_controller.md R228). -/
theorem EncodedAs.retires_immediateByte {v : Byte}
    (encoded : EncodedAs i n .immediateByte (some (.addr .tx)) none steps) (operand : (encode i).tail = [v])
    (chain : CyclesTake (steps.map fun st => (st, none))
      (fetchedFor i (s.regs.pc + 1) { s.regs with tx := word (hi8 s.regs.tx) v }) s.flags g f) :
    RetiresWith i (4 + steps.length) s g f := by
  obtain ⟨-, length, mode, subject, cond, steps_eq, -⟩ := encoded
  have fetched : { fetchedRegs i.opcode s.regs with
      pc := s.regs.pc + 1 + 1, memaddr := s.regs.pc + 1, tx := word (hi8 s.regs.tx) v } =
        fetchedFor i (s.regs.pc + 1) { s.regs with tx := word (hi8 s.regs.tx) v } := by
    rw [fetchedFor, length, BitVec.add_assoc]
    rfl
  have body : bodyCycles (microcode i) (encode i).tail =
      (.xaddr (.addr .pc) (.addr .memaddr) OpFlags.inc, none) :: (.xdata .mem (.addr .tx), some v) ::
        steps.map fun st => (st, none) := by
    rw [operand]
    simp only [bodyCycles, fetchOperands, mode, subject, steps_eq, supply, Option.getD_some, List.cons_append,
      List.nil_append]
  have cycles : cost (microcode i) = 4 + steps.length := by
    rw [cost, mode, steps_eq]
    rfl
  refine cycles ▸ retiresWith_of_cyclesTake cond ?_
  rw [body]
  exact .cons cycleTakes_stream_address (.cons (cycleTakes_stream_tx v) (fetched ▸ chain))

end

end Sys2Proof.Machine
end

section
/-! PROOFS. The ALU instructions (44_alu_instructions.md): each family's entry, and its steps as a chain of cycles. -/

namespace Sys2Proof.Machine

open Sys2Proof

/-! ### The entries -/

theorem microcode_aluReg {k : BinaryOp} (writes : k ≠ .cmp) (p : RegPair) :
    ∃ name, microcode (.aluReg k p) = aluReg name k.alu p.left p.right := by
  cases k with
  | cmp => exact absurd rfl writes
  | add | adc | sub | sbb | and | or | xor => cases p <;> exact ⟨_, rfl⟩

theorem microcode_cmpReg (p : RegPair) : ∃ name, microcode (.aluReg .cmp p) = cmpReg name p.left p.right := by
  cases p <;> exact ⟨_, rfl⟩

theorem microcode_aluImm {k : BinaryOp} (writes : k ≠ .cmp) (x : GReg) (v : Byte) :
    ∃ name, microcode (.aluImm k x v) = aluImm name k.alu x.reg := by
  cases k with
  | cmp => exact absurd rfl writes
  | add | adc | sub | sbb | and | or | xor => cases x <;> exact ⟨_, rfl⟩

theorem microcode_cmpImm (x : GReg) (v : Byte) : ∃ name, microcode (.aluImm .cmp x v) = cmpImm name x.reg := by
  cases x <;> exact ⟨_, rfl⟩

theorem microcode_aluUnary (u : UnaryOp) (x : GReg) :
    ∃ name, microcode (.aluUnary u x) = aluUnary name u.alu x.reg := by
  cases u <;> cases x <;> exact ⟨_, rfl⟩

theorem encode_aluImm_tail (k : BinaryOp) (x : GReg) (v : Byte) : (encode (.aluImm k x v)).tail = [v] := by
  cases k <;> cases x <;> rfl

/-- The registers of a pair are general ones. -/
theorem RegPair_exists_gReg (p : RegPair) : ∃ x y : GReg, p.left = x.reg ∧ p.right = y.reg := by
  cases p with
  | ab => exact ⟨.a, .b, rfl, rfl⟩
  | ac => exact ⟨.a, .c, rfl, rfl⟩
  | ad => exact ⟨.a, .d, rfl, rfl⟩
  | bc => exact ⟨.b, .c, rfl, rfl⟩
  | bd => exact ⟨.b, .d, rfl, rfl⟩
  | cd => exact ⟨.c, .d, rfl, rfl⟩

/-! ### General registers are apart from LHS, IR and the address registers -/

section
variable (x : GReg) (g : Regs)

theorem getByte_fetchedFor (i : Instr) (m : Word) : (fetchedFor i m g).getByte x.reg = g.getByte x.reg := by
  cases x <;> rfl

theorem setByte_fetchedFor (i : Instr) (m : Word) (v : Byte) :
    (fetchedFor i m g).setByte x.reg v = fetchedFor i m (g.setByte x.reg v) := by
  cases x <;> rfl

theorem getByte_with_lhs (l : Byte) : ({ g with lhs := l } : Regs).getByte x.reg = g.getByte x.reg := by
  cases x <;> rfl

theorem getByte_with_tx (w : Word) : ({ g with tx := w } : Regs).getByte x.reg = g.getByte x.reg := by
  cases x <;> rfl

end

/-! ### The steps of the templates -/

section
variable {g : Regs} {f : Flags} {l r : Byte}

/-- The step runs the operation with the right operand `r`, whatever is in LHS: what the forms with a register and with an
immediate have in common. -/
def Operates (k : BinaryOp) (st : Step) (g : Regs) (f : Flags) (r : Byte) : Prop :=
  ∀ l : Byte, CycleTakes (st, none) { g with lhs := l } f
    { g with lhs := if k = .cmp then l else binaryResult k l r f.c, rhs := r } (binaryFlags k l r f)

theorem operates_byte (k : BinaryOp) (y : GReg) (d : Bool) (operand : g.getByte y.reg = r) :
    Operates k ⟨.xdata, .byte y.reg, .alu, k.alu.code, d⟩ g f r := by
  intro l
  have run := cycleTakes_byte_binary (g := { g with lhs := l }) (f := f) (b := none) (d := d) k y.reg
  rwa [getByte_with_lhs, operand] at run

theorem operates_tx (k : BinaryOp) (d : Bool) (operand : lo8 g.tx = r) :
    Operates k ⟨.xdata, .addr .tx, .alu, k.alu.code, d⟩ g f r := by
  intro l
  have run := cycleTakes_addr_binary (g := { g with lhs := l }) (f := f) (b := none) (d := d) k .tx
  rwa [show lo8 (Regs.getWord { g with lhs := l } .tx) = r from operand] at run

/-- Left operand to LHS, operation, result to the register (44_alu_instructions.md R300, R309). -/
theorem cyclesTake_writeBack {k : BinaryOp} (writes : k ≠ .cmp) {x : GReg} {st : Step} (left : g.getByte x.reg = l)
    (operates : Operates k st g f r) :
    CyclesTake [(.xdata (.byte x.reg) (.byte .lhs), none), (st, none),
        ((Step.xdata (.byte .lhs) (.byte x.reg)).fin, none)] g f
      ({ g with lhs := binaryResult k l r f.c, rhs := r }.setByte x.reg (binaryResult k l r f.c))
      (binaryFlags k l r f) := by
  have run := operates l
  rw [if_neg writes] at run
  subst left
  exact .cons (cycleTakes_byte_byte x.reg .lhs) (.cons run (.cons (cycleTakes_byte_byte .lhs x.reg) (.nil ..)))

/-- Left operand to LHS, comparison (44_alu_instructions.md R308, R317). -/
theorem cyclesTake_compare {x : GReg} {st : Step} (left : g.getByte x.reg = l) (operates : Operates .cmp st g f r) :
    CyclesTake [(.xdata (.byte x.reg) (.byte .lhs), none), (st, none)] g f { g with lhs := l, rhs := r }
      { z := decide (l = r), c := decide (l.toNat < r.toNat), v := f.v } := by
  subst left
  exact .cons (cycleTakes_byte_byte x.reg .lhs) (.cons (binaryFlags_cmp .. ▸ operates _) (.nil ..))

/-- Operation on the register, result to the register (44_alu_instructions.md R318). -/
theorem cyclesTake_unary (u : UnaryOp) {x : GReg} (operand : g.getByte x.reg = r) :
    CyclesTake [(.xdata (.byte x.reg) .alu u.alu.code, none), ((Step.xdata (.byte .lhs) (.byte x.reg)).fin, none)] g f
      ({ g with lhs := unaryResult u r, rhs := r }.setByte x.reg (unaryResult u r)) (unaryFlags u r f) := by
  subst operand
  refine .cons ?_ (.cons (cycleTakes_byte_byte .lhs x.reg) (.nil ..))
  rintro s rfl rfl
  exact aluUnaryStep u x.reg s

end

end Sys2Proof.Machine

/-! ### The instructions -/

namespace Sys2Proof.AluInstructions

open Sys2Proof Sys2Proof.Machine

/-- Settles O45: the operation acts on the register's byte, then the write-back. -/
theorem aluUnary : Obligations.AluUnary := by
  intro u x s
  obtain ⟨name, entry⟩ := microcode_aluUnary u x
  have encoded : EncodedAs (.aluUnary u x) _ .implied none none _ :=
    encodedAs_of_entry (Instr.toNat_opcode_aluUnary u x) entry
  refine ⟨encoded, encoded.retires_implied ?_⟩
  rw [← setByte_fetchedFor]
  exact cyclesTake_unary u (getByte_fetchedFor ..)

/-- Settles O41: the left register's byte goes to LHS, the operation takes the right one's, then the write-back. -/
theorem aluRegisterRegister : Obligations.AluRegisterRegister := by
  intro k p s writes
  obtain ⟨name, entry⟩ := microcode_aluReg writes p
  obtain ⟨x, y, left, right⟩ := RegPair_exists_gReg p
  have encoded : EncodedAs (.aluReg k p) _ .implied none none _ :=
    encodedAs_of_entry (Instr.toNat_opcode_aluReg k p) entry
  refine ⟨encoded, encoded.retires_implied ?_⟩
  rw [left, right, ← setByte_fetchedFor]
  exact cyclesTake_writeBack writes (getByte_fetchedFor ..) (operates_byte k y false (getByte_fetchedFor ..))

/-- Settles O42: the left register's byte goes to LHS and is compared with the right one's; nothing is written back. -/
theorem compareRegisters : Obligations.CompareRegisters := by
  intro p s
  obtain ⟨name, entry⟩ := microcode_cmpReg p
  obtain ⟨x, y, left, right⟩ := RegPair_exists_gReg p
  have encoded : EncodedAs (.aluReg .cmp p) _ .implied none none _ :=
    encodedAs_of_entry (Instr.toNat_opcode_aluReg .cmp p) entry
  refine ⟨encoded, encoded.retires_implied ?_⟩
  rw [left, right]
  exact cyclesTake_compare (getByte_fetchedFor ..) (operates_byte .cmp y true (getByte_fetchedFor ..))

/-- Settles O43: the right operand is the low half of TX, which holds the immediate. -/
theorem aluRegisterImmediate : Obligations.AluRegisterImmediate := by
  intro k x v s writes
  obtain ⟨name, entry⟩ := microcode_aluImm writes x v
  have encoded : EncodedAs (.aluImm k x v) _ .immediateByte (some (.addr .tx)) none _ :=
    encodedAs_of_entry (Instr.toNat_opcode_aluImm k x v) entry
  refine ⟨encoded, encoded.retires_immediateByte (encode_aluImm_tail k x v) ?_⟩
  rw [← setByte_fetchedFor]
  exact cyclesTake_writeBack writes ((getByte_fetchedFor ..).trans (getByte_with_tx ..))
    (operates_tx k false (lo8_word _ v))

/-- Settles O44: the right operand is the low half of TX, and nothing is written back. -/
theorem compareImmediate : Obligations.CompareImmediate := by
  intro x v s
  obtain ⟨name, entry⟩ := microcode_cmpImm x v
  have encoded : EncodedAs (.aluImm .cmp x v) _ .immediateByte (some (.addr .tx)) none _ :=
    encodedAs_of_entry (Instr.toNat_opcode_aluImm .cmp x v) entry
  refine ⟨encoded, encoded.retires_immediateByte (encode_aluImm_tail .cmp x v) ?_⟩
  exact cyclesTake_compare ((getByte_fetchedFor ..).trans (getByte_with_tx ..)) (operates_tx .cmp true (lo8_word _ v))

end Sys2Proof.AluInstructions
end

section
/-! PROOFS. Instructions without operands whose last cycle accesses memory: the cycles before it only compute, and its outcome
(40_bus_transactions.md R158, R159) decides whether the instruction retires or ends in ProtectedMemory. -/

namespace Sys2Proof.Machine

open Sys2Proof

/-! ### Up to the access -/

/-- `t` has registers `g` and flags `f`, and is otherwise as `s` but for the bus, the controller, the counter and the
events: a next state of `LeadsTo`. -/
structure Computed (s : State) (g : Regs) (f : Flags) (t : State) : Prop where
  regs : t.regs = g
  flags : t.flags = f
  still : Undisturbed s t
  mem : t.mem = s.mem

theorem Computed.trans {s t u : State} {g g' : Regs} {f f' : Flags} (first : Computed s g f t)
    (second : Computed t g' f' u) : Computed s g' f' u :=
  ⟨second.regs, second.flags, first.still.trans second.still, second.mem.trans first.mem⟩

/-- Where the controller stands does not matter to `Computed`. -/
theorem Computed.withControl {s t : State} {g : Regs} {f : Flags} (h : Computed s g f t) (c : Control) :
    Computed s g f { t with control := c } := ⟨h.regs, h.flags, h.still, h.mem⟩

theorem leadsTo_iff {o : Out} {s : State} {g : Regs} {f : Flags} :
    LeadsTo o s g f ↔ ∃ t, o = .next t ∧ Computed s g f t :=
  ⟨fun ⟨t, run, regs, flags, still, mem⟩ => ⟨t, run, regs, flags, still, mem⟩,
    fun ⟨t, run, regs, flags, still, mem⟩ => ⟨t, run, regs, flags, still, mem⟩⟩

/-- Cycles that only compute bring the run to the cycles after them. -/
theorem CyclesTake.runCycles_append {cs : List (Step × Option Byte)} {g g' : Regs} {f f' : Flags}
    (chain : CyclesTake cs g f g' f') {e : Entry} (plain : e.cond = none) (rest : List (Step × Option Byte))
    (index : Nat) (s : State) (regs : s.regs = g) (flags : s.flags = f) :
    ∃ u k, Machine.runCycles e (cs ++ rest) index s = Machine.runCycles e rest k u ∧ Computed s g' f' u := by
  induction chain generalizing index s with
  | nil g f => exact ⟨s, index, rfl, regs, flags, ⟨rfl, rfl, rfl, rfl⟩, rfl⟩
  | @cons c cs g g₁ g' f f₁ f' first _ ih =>
    obtain ⟨t, run, here⟩ := leadsTo_iff.mp (first s regs flags)
    obtain ⟨u, k, later, there⟩ := ih (index + 1) { t with control := .running e (index + 1) } here.regs here.flags
    refine ⟨u, k, ?_, (here.withControl _).trans there⟩
    rw [List.cons_append, runCycles_cons, suppressed_plain plain, run, andThen_next, later]

/-- The instruction is unconditional and costs `n` cycles, and up to the cycles `cs`, which are left, it has only computed,
with registers `g` and the flags of `s`. -/
def RunsUpTo (i : Instr) (n : Nat) (s : State) (g : Regs) (cs : List (Step × Option Byte)) : Prop :=
  (microcode i).cond = none ∧ cost (microcode i) = n ∧
    ∃ u k, exec i s = takeError (runCycles (microcode i) cs k u) ∧ Computed s g s.flags u

/-- With no operand, the steps start right after the opcode fetch (42_controller.md R226). -/
theorem EncodedAs.runsUpTo_implied {i : Instr} {n : Nat} {subject : Option CompId} {pre rest : List Step} {s : State}
    {g : Regs} (encoded : EncodedAs i n .implied subject none (pre ++ rest))
    (chain : CyclesTake (pre.map fun st => (st, none)) (fetchedFor i s.regs.pc s.regs) s.flags g s.flags) :
    RunsUpTo i (2 + (pre ++ rest).length) s g (rest.map fun st => (st, none)) := by
  obtain ⟨-, length, mode, -, cond, steps_eq, -⟩ := encoded
  have fetched : fetchedRegs i.opcode s.regs = fetchedFor i s.regs.pc s.regs := by
    rw [fetchedFor, length]
    rfl
  have body : bodyCycles (microcode i) (encode i).tail =
      (pre.map fun st => (st, none)) ++ rest.map fun st => (st, none) := by
    simp only [bodyCycles, fetchOperands, mode, steps_eq, supply, List.nil_append, List.map_append]
  have cycles : cost (microcode i) = 2 + (pre ++ rest).length := by
    rw [cost, mode, steps_eq]
    rfl
  obtain ⟨t, fetch, here⟩ := leadsTo_iff.mp (fetchOpcode_leadsTo i.opcode s)
  obtain ⟨u, k, run, there⟩ := chain.runCycles_append cond (rest.map fun st => (st, none)) 2
    { t with control := .running (microcode i) 2 } (here.regs.trans fetched) here.flags
  refine ⟨cond, cycles, u, k, ?_, (here.withControl _).trans there⟩
  rw [exec_eq_runEntry, runEntry, encode_eq_opcode_cons, List.head?_cons, fetch, andThen_next, List.tail_cons, runBody,
    body, run]

/-! ### The access and what follows it -/

/-- The access completes with registers `g` and memory `m`, and leaves the rest. -/
def AccessCompletes (o : Out) (u : State) (g : Regs) (m : Memory) : Prop :=
  ∃ t, o = .next t ∧ t.regs = g ∧ t.flags = u.flags ∧ Undisturbed u t ∧ t.mem = m

/-- The access raises ProtectedMemory and leaves registers, flags, memory and the rest. -/
def AccessProtected (o : Out) (u : State) : Prop :=
  ∃ l, o = .fault (.protectedMemory l) ∧ Computed u u.regs u.flags l

/-- The instruction ends in ProtectedMemory with registers `g`, and leaves flags, memory and the rest. -/
def ErrsProtected (i : Instr) (s : State) (g : Regs) : Prop :=
  ∃ l, Errs i .protectedMemory s l ∧ l.regs = g ∧ Undisturbed s l ∧ MemorySame s l

section
variable {i : Instr} {n : Nat} {s : State} {g g' : Regs} {st : Step}

/-- A last cycle that completes retires the instruction. -/
theorem RunsUpTo.retires {m : Memory} (reached : RunsUpTo i n s g [(st, none)])
    (access : ∀ u, u.regs = g → u.mem = s.mem → AccessCompletes (cycle st false none u) u g' m) :
    ∃ t, Retires i n s t ∧ t.regs = g' ∧ t.flags = s.flags ∧ Undisturbed s t ∧ t.mem = m := by
  obtain ⟨plain, rfl, u, k, run, before⟩ := reached
  obtain ⟨t, done, regs, flags, still, mem⟩ := access u before.regs before.mem
  have completes : exec i s =
      .next (retire (microcode i) { t with control := .running (microcode i) (k + 1) }) := by
    rw [run, runCycles_cons, suppressed_plain plain, done, andThen_next, runCycles_nil, takeError_next]
  obtain ⟨count, control, -⟩ := (retireCountsAndReports i s).1 _ completes
  exact ⟨_, ⟨completes, count, control⟩, regs, flags.trans before.flags, before.still.trans still, mem⟩

/-- A last cycle that raises ends the instruction, what the cycles before it did standing (42_controller.md R242). -/
theorem RunsUpTo.errs (reached : RunsUpTo i n s g [(st, none)])
    (access : ∀ u, u.regs = g → u.mem = s.mem → AccessProtected (cycle st false none u) u) : ErrsProtected i s g := by
  obtain ⟨plain, -, u, k, run, before⟩ := reached
  obtain ⟨l, raised, after⟩ := access u before.regs before.mem
  have raises : exec i s = .fault (.protectedMemory l.betweenInstructions) := by
    rw [run, runCycles_cons, suppressed_plain plain, raised, andThen_fault, takeError_fault, Fault.mapLeft]
  obtain ⟨count, -⟩ := (retireCountsAndReports i s).2 _ raises
  have left := before.trans after
  exact ⟨_, ⟨raises, count, left.flags.trans before.flags⟩, left.regs.trans before.regs, left.still,
    fun a => congrArg (·.readByte a) left.mem⟩

/-! ### Stores and loads -/

/-- From registers `g`, the step drives `v` and MEM latches it (40_bus_transactions.md R159). -/
def PutsToMem (st : Step) (g : Regs) (v : Byte) : Prop :=
  ∀ u : State, u.regs = g → cycle st false none u = latchMem 0#4 ((programBus st u).driveData v)

theorem putsToMem_byte {x : ByteReg} {d : Bool} {v : Byte} (operand : g.getByte x = v) :
    PutsToMem ⟨.xdata, .byte x, .mem, 0#4, d⟩ g v := by
  subst operand
  rintro u rfl
  exact cycle_byte_mem ..

theorem putsToMem_addr {x : AddrReg} {d : Bool} {v : Byte} (operand : lo8 (g.getWord x) = v) :
    PutsToMem ⟨.xdata, .addr x, .mem, 0#4, d⟩ g v := by
  subst operand
  rintro u rfl
  exact cycle_addr_mem ..

theorem latchMem_completes {u : State} {m : Memory} (write : u.mem.writeByte u.regs.memaddr.toNat u.bus.data = some m) :
    AccessCompletes (latchMem 0#4 u) u u.regs m := by
  obtain ⟨-, banks, -⟩ := writeByte_effect write
  refine ⟨{ u with mem := m }, ?_, rfl, rfl, ⟨rfl, rfl, rfl, banks⟩, rfl⟩
  simp only [latchMem, write]
  rfl

theorem PutsToMem.completes {v : Byte} (puts : PutsToMem st g v) {u : State} (regs : u.regs = g) {m : Memory}
    (write : u.mem.writeByte g.memaddr.toNat v = some m) : AccessCompletes (cycle st false none u) u g m := by
  subst regs
  rw [puts u rfl]
  exact latchMem_completes (u := (programBus st u).driveData v) write

theorem PutsToMem.raises {v : Byte} (puts : PutsToMem st g v) {u : State} (regs : u.regs = g)
    (readOnly : u.mem.writable g.memaddr.toNat = false) : AccessProtected (cycle st false none u) u := by
  subst regs
  rw [puts u rfl]
  exact ⟨_, latchMem_fault readOnly, rfl, rfl, ⟨rfl, rfl, rfl, rfl⟩, rfl⟩

/-- An instruction that stores `v` at MEMADDR in its last cycle retires if the address is writable and errs if not. -/
theorem RunsUpTo.stores {v : Byte} (reached : RunsUpTo i n s g [(st, none)]) (puts : PutsToMem st g v) :
    (s.mem.writable g.memaddr.toNat = true → ∃ t, Retires i n s t ∧ t.regs = g ∧ t.flags = s.flags ∧ Undisturbed s t ∧
      StoresByte s t g.memaddr v) ∧
    (s.mem.writable g.memaddr.toNat = false → ErrsProtected i s g) := by
  refine ⟨fun writable => ?_, fun readOnly => reached.errs fun u regs mem => puts.raises regs (mem ▸ readOnly)⟩
  obtain ⟨m, write⟩ : ∃ m, s.mem.writeByte g.memaddr.toNat v = some m := ⟨_, writeByte_some v writable⟩
  obtain ⟨-, -, reads⟩ := writeByte_effect write
  obtain ⟨t, retires, regs, flags, still, mem⟩ :=
    reached.retires fun u regs mem => puts.completes regs (m := m) (mem ▸ write)
  exact ⟨t, retires, regs, flags, still, fun x => mem ▸ reads x⟩

/-- An instruction that loads the byte at MEMADDR in its last cycle retires if the address is mapped and errs if not. -/
theorem RunsUpTo.loads {x : ByteReg} {d : Bool} (reached : RunsUpTo i n s g [(⟨.xdata, .mem, .byte x, 0#4, d⟩, none)]) :
    (∀ v, s.mem.readByte g.memaddr.toNat = some v → RetiresWith i n s (g.setByte x v) s.flags) ∧
    (s.mem.readByte g.memaddr.toNat = none → ErrsProtected i s g) := by
  refine ⟨fun v mapped => ?_, fun unmapped => reached.errs fun u regs mem => ?_⟩
  · obtain ⟨t, retires, regs, flags, still, mem⟩ := reached.retires (g' := g.setByte x v) fun u regs mem =>
      ⟨_, cycle_mem_byte x 0#4 d (regs ▸ mem ▸ mapped), regs ▸ rfl, rfl, ⟨rfl, rfl, rfl, rfl⟩, mem⟩
    exact ⟨t, retires, regs, flags, still, fun a => congrArg (·.readByte a) mem⟩
  · exact ⟨_, cycle_mem_fault _ 0#4 d (regs ▸ mem ▸ unmapped), rfl, rfl, ⟨rfl, rfl, rfl, rfl⟩, rfl⟩

end

end Sys2Proof.Machine
end

section
/-! PROOFS. The byte and flags instructions of the stack (45_stack.md): their entries, the cycles that move SP, and the flags
byte as arithmetic. -/

namespace Sys2Proof.Machine

open Sys2Proof

/-! ### The entries -/

theorem microcode_push8 (x : GReg) : ∃ name, microcode (.push8 x) = push8 name x.reg := by
  cases x <;> exact ⟨_, rfl⟩

theorem microcode_pop8 (x : GReg) : ∃ name, microcode (.pop8 x) = pop8 name x.reg := by
  cases x <;> exact ⟨_, rfl⟩

/-! ### SP and TX -/

theorem word_zero (v : Byte) : word 0 v = v.setWidth 16 :=
  (BitVec.setWidth_eq_append (by decide : 8 ≤ 16)).symm

theorem lo8_setWidth (v : Byte) : lo8 (v.setWidth 16) = v := by
  rw [← word_zero, lo8_word]

section
variable {g : Regs} {f : Flags} {b : Option Byte}

/-- SP moves down, then goes to MEMADDR (45_stack.md R331). -/
theorem cycleTakes_sp_dec :
    CycleTakes (.xaddr (.addr .sp) (.addr .memaddr) OpFlags.dec, b) g f
      { g with sp := g.sp - 1, memaddr := g.sp - 1 } f := by
  rintro s rfl rfl
  exact ⟨_, cycle_xaddr .., rfl, rfl, ⟨rfl, rfl, rfl, rfl⟩, rfl⟩

/-- SP goes to MEMADDR, then moves up (45_stack.md R332). -/
theorem cycleTakes_sp_inc :
    CycleTakes (.xaddr (.addr .sp) (.addr .memaddr) OpFlags.inc, b) g f
      { g with sp := g.sp + 1, memaddr := g.sp } f := by
  rintro s rfl rfl
  exact ⟨_, cycle_xaddr .., rfl, rfl, ⟨rfl, rfl, rfl, rfl⟩, rfl⟩

/-- The flags byte goes to TX (45_stack.md R336). -/
theorem cycleTakes_flags_tx {v : Byte} (byte : flagsByte f = v) :
    CycleTakes (.xaddr .alu (.addr .tx) OpFlags.flags, b) g f { g with tx := v.setWidth 16 } f := by
  subst byte
  rintro s rfl rfl
  rw [← word_zero]
  exact ⟨_, cycle_flags_addr .., rfl, rfl, ⟨rfl, rfl, rfl, rfl⟩, rfl⟩

/-- A general register is apart from SP. -/
theorem getByte_with_sp (x : GReg) (w : Word) : ({ g with sp := w } : Regs).getByte x.reg = g.getByte x.reg := by
  cases x <;> rfl

end

/-- The flags byte is V·4 + C·2 + Z (10_state.md R29). -/
theorem flagsByte_eq_ofNat (f : Flags) :
    flagsByte f = BitVec.ofNat 8 (f.v.toNat * 4 + f.c.toNat * 2 + f.z.toNat) := by
  obtain ⟨z, c, v⟩ := f
  cases z <;> cases c <;> cases v <;> rfl

end Sys2Proof.Machine

/-! ### The instructions -/

namespace Sys2Proof.StackInstructions

open Sys2Proof Sys2Proof.Machine

/-- Settles O46: SP and MEMADDR move first, then the store of the register decides. -/
theorem pushByte : Obligations.PushByte := by
  intro x s a
  obtain ⟨name, entry⟩ := microcode_push8 x
  have encoded : EncodedAs (.push8 x) _ .implied none none _ :=
    encodedAs_of_entry (Instr.toNat_opcode_push8 x) entry
  have reached : RunsUpTo (.push8 x) 4 s (fetchedFor (.push8 x) a { s.regs with sp := a })
      [((Step.xdata (.byte x.reg) .mem).fin, none)] :=
    encoded.runsUpTo_implied (pre := [_]) (rest := [_]) (.cons cycleTakes_sp_dec (.nil ..))
  exact ⟨encoded, reached.stores (putsToMem_byte ((getByte_fetchedFor ..).trans (getByte_with_sp ..)))⟩

/-- Settles O47: SP and MEMADDR move first, then the load into the register decides. -/
theorem popByte : Obligations.PopByte := by
  intro x s a
  obtain ⟨name, entry⟩ := microcode_pop8 x
  have encoded : EncodedAs (.pop8 x) _ .implied none none _ :=
    encodedAs_of_entry (Instr.toNat_opcode_pop8 x) entry
  have reached : RunsUpTo (.pop8 x) 4 s (fetchedFor (.pop8 x) a { s.regs with sp := a + 1 })
      [((Step.xdata .mem (.byte x.reg)).fin, none)] :=
    encoded.runsUpTo_implied (pre := [_]) (rest := [_]) (.cons cycleTakes_sp_inc (.nil ..))
  obtain ⟨retires, errs⟩ := reached.loads
  simp only [setByte_fetchedFor] at retires
  exact ⟨encoded, retires, errs⟩

/-- Settles O50: the flags byte goes to TX, SP and MEMADDR move, then the store of TX's low half decides. -/
theorem pushFlags : Obligations.PushFlags := by
  intro s v a
  have entry : microcode .pushf = Machine.pushFlags "PUSHF" := rfl
  have encoded : EncodedAs .pushf 0x5E .implied none none _ := encodedAs_of_entry rfl entry
  have reached : RunsUpTo .pushf 5 s (fetchedFor .pushf a { s.regs with sp := a, tx := v.setWidth 16 })
      [((Step.xdata (.addr .tx) .mem).fin, none)] :=
    encoded.runsUpTo_implied (pre := [_, _]) (rest := [_])
      (.cons (cycleTakes_flags_tx (flagsByte_eq_ofNat _)) (.cons cycleTakes_sp_dec (.nil ..)))
  exact ⟨encoded, reached.stores (putsToMem_addr (lo8_setWidth v))⟩

end Sys2Proof.StackInstructions
end

section
/-! PROOFS. The conditional jumps (46_control_flow.md R351 to R357): a word operand goes to TX, then the last step, suppressed
when the condition does not hold (42_controller.md R238, R239), loads PC. -/

namespace Sys2Proof.Machine

open Sys2Proof

/-! ### A conditional entry -/

theorem suppressed_last {e : Entry} {c : Cond} (cond : e.cond = some c) (f : Flags) :
    suppressed e true f = !taken c f := by
  simp only [suppressed, cond, Bool.true_and]

/-- Cycles that only compute, then a last one, which alone the entry's condition can suppress. -/
theorem CyclesTake.runCycles_concat {cs : List (Step × Option Byte)} {g g' g'' : Regs} {f f' f'' : Flags}
    (chain : CyclesTake cs g f g' f') {e : Entry} {last : Step × Option Byte}
    (final : ∀ s, s.regs = g' → s.flags = f' → LeadsTo (cycle last.1 (suppressed e true f') last.2 s) s g'' f'')
    (index : Nat) (s : State) (regs : s.regs = g) (flags : s.flags = f) :
    LeadsTo (Machine.runCycles e (cs ++ [last]) index s) s g'' f'' := by
  induction chain generalizing index s with
  | nil g f =>
    subst flags
    exact (final s regs rfl).andThen fun t regs flags => ⟨_, runCycles_nil .., regs, flags, ⟨rfl, rfl, rfl, rfl⟩, rfl⟩
  | @cons c cs g g₁ g' f f₁ f' first _ ih =>
    have more : (cs ++ [last]).isEmpty = false := by simp
    rw [List.cons_append, runCycles_cons, more, suppressed_inner]
    exact (first s regs flags).andThen fun t regs flags =>
      ih final (index + 1) { t with control := .running e (index + 1) } regs flags

/-- An instruction whose cycles after the opcode fetch lead to registers `g` and flags `f`. -/
theorem retiresWith_of_runBody {i : Instr} {s : State} {g : Regs} {f : Flags}
    (body : ∀ t, t.regs = fetchedRegs i.opcode s.regs → t.flags = s.flags →
      LeadsTo (runBody (microcode i) (encode i).tail t) t g f) : RetiresWith i (cost (microcode i)) s g f := by
  obtain ⟨t, completes, regs, flags, still, mem⟩ := (fetchOpcode_leadsTo i.opcode s).andThen body
  have execNext : exec i s = .next t := by
    rw [exec_eq_runEntry, runEntry, encode_eq_opcode_cons]
    exact takeError_eq_next.mpr completes
  obtain ⟨count, control, -⟩ := (retireCountsAndReports i s).1 t execNext
  exact ⟨t, ⟨execNext, count, control⟩, regs, flags, still, fun x => by rw [mem]⟩

/-! ### The word operand -/

section
variable {g : Regs} {f : Flags} {b : Option Byte}

theorem cycleTakes_addr_addr (x y : AddrReg) :
    CycleTakes (.xaddr (.addr x) (.addr y), b) g f (g.setWord y (g.getWord x)) f := by
  rintro s rfl rfl
  refine ⟨_, cycle_xaddr .., ?_, rfl, ⟨rfl, rfl, rfl, rfl⟩, rfl⟩
  exact congrArg (Regs.setWord · y _) (Regs.setWord_getWord ..)

/-- A byte of the instruction stream goes to the low half of TX, and MEMADDR to the next (42_controller.md R229). -/
theorem cycleTakes_stream_tx_low (v : Byte) :
    CycleTakes (.xdata .mem (.addr .tx) OpFlags.inc, some v) g f
      { g with tx := word (hi8 g.tx) v, memaddr := g.memaddr + 1 } f := by
  rintro s rfl rfl
  exact ⟨_, cycle_stream_addr .., rfl, rfl, ⟨rfl, rfl, rfl, rfl⟩, rfl⟩

/-- A byte of the instruction stream goes to the high half of TX, and MEMADDR to the next (42_controller.md R229). -/
theorem cycleTakes_stream_tx_high (v : Byte) :
    CycleTakes (.xdata .mem (.addr .tx) (OpFlags.inc ||| OpFlags.msb), some v) g f
      { g with tx := word v (lo8 g.tx), memaddr := g.memaddr + 1 } f := by
  rintro s rfl rfl
  exact ⟨_, cycle_stream_addr .., rfl, rfl, ⟨rfl, rfl, rfl, rfl⟩, rfl⟩

/-- The fetch of a word operand into TX, low byte first, moves PC and MEMADDR past it (42_controller.md R229). -/
theorem cyclesTake_fetchWord_tx (w : Word) :
    CyclesTake (supply (fetchWord (.addr .tx) false) [lo8 w, hi8 w]) g f
      { g with pc := g.pc + 1 + 1, memaddr := g.pc + 1 + 1, tx := w } f := by
  have whole : CyclesTake (supply (fetchWord (.addr .tx) false) [lo8 w, hi8 w]) g f
      { g with
        pc := g.pc + 1 + 1
        memaddr := g.pc + 1 + 1
        tx := word (hi8 w) (lo8 (word (hi8 g.tx) (lo8 w))) } f :=
    .cons (cycleTakes_addr_addr .pc .memaddr) (.cons (cycleTakes_stream_tx_low (lo8 w))
      (.cons (cycleTakes_stream_tx_high (hi8 w)) (.cons (cycleTakes_addr_addr .memaddr .pc) (.nil ..))))
  rwa [lo8_word, word_hi_lo] at whole

end

/-- A conditional instruction with a word operand and one step: the operand is fetched into TX, and the step is suppressed
when the condition does not hold (42_controller.md R229, R238). -/
theorem EncodedAs.retires_conditional {i : Instr} {n : Nat} {c : Cond} {st : Step} {w : Word} {s : State} {g : Regs}
    {f : Flags} (encoded : EncodedAs i n .immediateWord (some (.addr .tx)) (some c) [st])
    (operand : (encode i).tail = [lo8 w, hi8 w])
    (final : ∀ u, u.regs = fetchedFor i (s.regs.pc + 3) { s.regs with tx := w } → u.flags = s.flags →
      LeadsTo (cycle st (!taken c s.flags) none u) u g f) :
    RetiresWith i 7 s g f := by
  obtain ⟨-, length, mode, subject, cond, steps, msbFirst⟩ := encoded
  have fetched : { fetchedRegs i.opcode s.regs with
      pc := s.regs.pc + 1 + 1 + 1, memaddr := s.regs.pc + 1 + 1 + 1, tx := w } =
        fetchedFor i (s.regs.pc + 3) { s.regs with tx := w } := by
    rw [fetchedFor, length, BitVec.add_assoc, BitVec.add_assoc]
    rfl
  have body : bodyCycles (microcode i) (encode i).tail =
      supply (fetchWord (.addr .tx) false) [lo8 w, hi8 w] ++ [(st, none)] := by
    simp only [bodyCycles, fetchOperands, mode, subject, steps, msbFirst, operand, Option.getD_some, List.map_cons,
      List.map_nil]
  have cycles : cost (microcode i) = 7 := by
    rw [cost, mode, steps]
    rfl
  refine cycles ▸ retiresWith_of_runBody fun t regs flags => ?_
  rw [runBody, body]
  refine (cyclesTake_fetchWord_tx w).runCycles_concat ?_ 2 { t with control := .running (microcode i) 2 } regs flags
  rw [suppressed_last cond]
  exact fetched ▸ final

/-! ### The entries and their conditions -/

/-- The bit of the flags byte a conditional jump tests (46_control_flow.md R352 to R357, 10_state.md R29). -/
def condMask : Branch → Byte
  | .jz | .jnz => 0x01
  | .jc | .jnc => 0x02
  | .jv | .jnv => 0x04

/-- How a conditional jump tests its bit (46_control_flow.md R352 to R357). -/
def condOp : Branch → CondOp
  | .jz | .jc | .jv => .and
  | .jnz | .jnc | .jnv => .nand

theorem microcode_jumpIf (b : Branch) (target : Word) :
    ∃ name, microcode (.jumpIf b target) = jumpCond name (condMask b) (condOp b) := by
  cases b <;> exact ⟨_, rfl⟩

theorem encode_jumpIf_tail (b : Branch) (target : Word) :
    (encode (.jumpIf b target)).tail = [lo8 target, hi8 target] := by
  cases b <;> rfl

theorem encodedAs_jumpIf (b : Branch) (target : Word) :
    EncodedAs (.jumpIf b target) (0x61 + b.num) .immediateWord (some (.addr .tx)) (some ⟨condMask b, condOp b⟩)
      [(Step.xaddr (.addr .tx) (.addr .pc)).fin] := by
  obtain ⟨name, entry⟩ := microcode_jumpIf b target
  simp only [EncodedAs, encode_length, entry, ← Instr.toNat_opcode_jumpIf b target, BitVec.ofNat_toNat,
    BitVec.setWidth_eq, jumpCond, plainEntry, and_self]

/-- The mask picks the tested flag out of the flags byte (10_state.md R29). -/
theorem flagsByte_and_condMask (b : Branch) (f : Flags) : (flagsByte f &&& condMask b != 0) = b.flag f := by
  obtain ⟨z, c, v⟩ := f
  cases b <;> revert z c v <;> decide

/-- The condition of a conditional jump holds iff the flag has the value of the branch (30_encoding.md R101). -/
theorem taken_jumpIf_iff (b : Branch) (f : Flags) :
    taken ⟨condMask b, condOp b⟩ f = true ↔ b.flag f = b.takenOn := by
  rw [← flagsByte_and_condMask]
  cases b <;> simp [taken, condOp, Branch.takenOn]

/-- All conditional jumps are three bytes long (30_encoding.md R91). -/
theorem fetchedFor_jumpIf_pc (b : Branch) (target m : Word) (g : Regs) :
    (fetchedFor (.jumpIf b target) m g).pc = g.pc + 3 := by
  cases b <;> rfl

/-- The step of a conditional jump: PC takes TX, or stays where the step is suppressed. -/
theorem jumpStep_leadsTo (go : Bool) (s : State) :
    LeadsTo (cycle (Step.xaddr (.addr .tx) (.addr .pc)).fin (!go) none s) s
      { s.regs with pc := if go = true then s.regs.tx else s.regs.pc } s.flags := by
  cases go with
  | true => exact ⟨_, cycle_xaddr .., rfl, rfl, ⟨rfl, rfl, rfl, rfl⟩, rfl⟩
  | false => exact ⟨_, cycle_suppressed .., rfl, rfl, ⟨rfl, rfl, rfl, rfl⟩, rfl⟩

end Sys2Proof.Machine

/-! ### The instructions -/

namespace Sys2Proof.ControlFlow

open Sys2Proof Sys2Proof.Machine

/-- Settles O54: the target goes to TX, then the condition decides whether PC takes it. -/
theorem conditionalJump : Obligations.ConditionalJump := by
  intro b target s
  have encoded := encodedAs_jumpIf b target
  refine ⟨encoded, encoded.retires_conditional (encode_jumpIf_tail b target) fun u regs flags => ?_⟩
  have jump := jumpStep_leadsTo (taken ⟨condMask b, condOp b⟩ s.flags) u
  simp only [regs, flags, taken_jumpIf_iff, fetchedFor_jumpIf_pc] at jump
  exact jump

end Sys2Proof.ControlFlow
end

section
/-! PROOFS. OUT (47_io_system.md R372): its one step drives the register's byte, and the channel, installed as an output or
not, decides whether the instruction retires or ends in InvalidComponentID (R376). -/

namespace Sys2Proof.Machine

open Sys2Proof

/-! ### The output channel -/

section
variable {ch : Fin 16} {s : State}

/-- The sink of an installed output channel gets the data bus (47_io_system.md R376). -/
theorem channelOutput_of_installed (installed : s.io.channels[ch.val] = some .output) :
    channelOutput ch s =
      .next ({ s with io := { s.io with output := s.io.output.set ch.val (s.io.output[ch.val] ++ [s.bus.data]) } }.notify
        (.outputWritten ch s.bus.data)) := by
  simp only [channelOutput, installed]

/-- Nothing is delivered to a missing channel or an input channel (47_io_system.md R376). -/
theorem channelOutput_of_not_installed (missing : s.io.channels[ch.val] ≠ some .output) :
    channelOutput ch s = raise .invalidComponentID s := by
  unfold channelOutput
  split
  · exact absurd ‹_› missing
  · rfl

end

/-! ### The entry and its step -/

theorem microcode_output (ch : Port) (r : GReg) :
    ∃ name, microcode (.output ch r) = outputChannel name (BitVec.ofNat 4 ch.num) r.reg := by
  cases ch <;> cases r <;> exact ⟨_, rfl⟩

theorem channel_ofCode_num (ch : Port) : (CompId.ofCode (BitVec.ofNat 4 ch.num)).channel = ch.channel := by
  cases ch <;> rfl

section
variable {x : ByteReg} {ch : Port} {u : State}

/-- The step of OUT drives the register's byte and offers it to the port's channel (40_bus_transactions.md R167). -/
theorem cycle_outputStep (x : ByteReg) (ch : Port) (u : State) :
    cycle (Step.ioOut (.byte x) (BitVec.ofNat 4 ch.num)).fin false none u =
      channelOutput ch.channel
        ((programBus (Step.ioOut (.byte x) (BitVec.ofNat 4 ch.num)).fin u).driveData (u.regs.getByte x)) := by
  rw [← channel_ofCode_num]
  exact cycle_io_out ..

theorem cycle_outputStep_delivers (installed : u.io.channels[ch.channel.val] = some .output) :
    ∃ t, cycle (Step.ioOut (.byte x) (BitVec.ofNat 4 ch.num)).fin false none u = .next t ∧ t.regs = u.regs ∧
      t.flags = u.flags ∧ t.bus.data = u.regs.getByte x ∧
      t.io = { u.io with
        output := u.io.output.set ch.channel.val (u.io.output[ch.channel.val] ++ [u.regs.getByte x]) } ∧
      t.lines = u.lines ∧ t.table = u.table ∧ t.mem = u.mem := by
  rw [cycle_outputStep]
  exact ⟨_, channelOutput_of_installed installed, rfl, rfl, rfl, rfl, rfl, rfl, rfl⟩

theorem cycle_outputStep_raises (missing : u.io.channels[ch.channel.val] ≠ some .output) :
    ∃ l, cycle (Step.ioOut (.byte x) (BitVec.ofNat 4 ch.num)).fin false none u = .fault (.invalidComponentID l) ∧
      Computed u u.regs u.flags l := by
  rw [cycle_outputStep]
  exact ⟨_, channelOutput_of_not_installed missing, rfl, rfl, ⟨rfl, rfl, rfl, rfl⟩, rfl⟩

end

/-! ### The last cycle of an instruction -/

section
variable {i : Instr} {n : Nat} {s : State} {g : Regs} {st : Step}

/-- Where one cycle is left, the instruction is that cycle, from a state that has only computed, and the retire after it. -/
theorem RunsUpTo.exec_eq_last_cycle (reached : RunsUpTo i n s g [(st, none)]) :
    ∃ u, exec i s = takeError (andThen (cycle st false none u) fun t => .next (retire (microcode i) t)) ∧
      Computed s g s.flags u := by
  obtain ⟨plain, -, u, k, run, before⟩ := reached
  refine ⟨u, ?_, before⟩
  rw [run, runCycles_cons, suppressed_plain plain]
  rfl

theorem RunsUpTo.retires_of_exec {t : State} (reached : RunsUpTo i n s g [(st, none)]) (completes : exec i s = .next t) :
    Retires i n s t := by
  obtain ⟨-, rfl, -⟩ := reached
  obtain ⟨count, control, -⟩ := (retireCountsAndReports i s).1 t completes
  exact ⟨completes, count, control⟩

end

end Sys2Proof.Machine

/-! ### The instruction -/

namespace Sys2Proof.IoSystem

open Sys2Proof Sys2Proof.Machine

/-- Settles O60: past the opcode fetch only the IO step is left, and the channel decides its outcome. -/
theorem output : Obligations.Output := by
  intro ch r s
  obtain ⟨name, entry⟩ := microcode_output ch r
  have encoded : EncodedAs (.output ch r) _ .implied none none _ :=
    encodedAs_of_entry (Instr.toNat_opcode_output ch r) entry
  have reached : RunsUpTo (.output ch r) 3 s (fetchedFor (.output ch r) s.regs.pc s.regs)
      [((Step.ioOut (.byte r.reg) (BitVec.ofNat 4 ch.num)).fin, none)] :=
    encoded.runsUpTo_implied (pre := []) (rest := [_]) (.nil ..)
  obtain ⟨u, run, before⟩ := reached.exec_eq_last_cycle
  obtain ⟨lines, io, table, -⟩ := before.still
  have byte : u.regs.getByte r.reg = s.regs.getByte r.reg := by
    rw [before.regs, getByte_fetchedFor]
  refine ⟨encoded, fun installed => ?delivered, fun missing => ?raised⟩
  case delivered =>
    rw [← io] at installed
    obtain ⟨t, done, regs, flags, data, sink, lines', table', mem⟩ := cycle_outputStep_delivers (x := r.reg) installed
    rw [done, andThen_next, takeError_next] at run
    rw [byte] at data sink
    rw [io] at sink
    exact ⟨_, reached.retires_of_exec run, regs.trans before.regs, flags.trans before.flags, data, sink,
      lines'.trans lines, table'.trans table, mem.trans before.mem⟩
  case raised =>
    rw [← io] at missing
    obtain ⟨l, raised, after⟩ := cycle_outputStep_raises (x := r.reg) missing
    rw [raised, andThen_fault, takeError_fault, Fault.mapLeft] at run
    obtain ⟨count, -⟩ := (retireCountsAndReports (.output ch r) s).2 _ run
    have left := before.trans after
    exact ⟨_, ⟨run, count, left.flags.trans before.flags⟩, left.regs.trans before.regs, left.still,
      fun a => congrArg (·.readByte a) left.mem⟩

end Sys2Proof.IoSystem
end

section
/-! PROOFS. The decoder and the encoder are inverse (30_encoding.md sections 1 and 2): what each opcode byte selects is encoded
with that byte and its operands, so both directions, and the rules on operand bytes (R95) and on unassigned opcodes (R94),
follow from the opcode map. -/

namespace Sys2Proof

/-! ### The opcode map -/

/-- What the opcode selects is encoded as the opcode and its operand bytes, and runs one entry whatever the operand. -/
def OpcodeForm.EncodedWith (op : Byte) : OpcodeForm → Prop
  | .plain i => encode i = [op]
  | .byteOperand mk => ∀ b, encode (mk b) = [op, b] ∧ Machine.microcode (mk b) = Machine.microcode (mk 0)
  | .wordOperand mk => ∀ w, encode (mk w) = [op, lo8 w, hi8 w] ∧ Machine.microcode (mk w) = Machine.microcode (mk 0)
  | .unassigned => True

/-- The forms of consecutive opcodes from `n` on are encoded with their opcodes. -/
def FormsEncodedFrom : Nat → List OpcodeForm → Prop
  | _, [] => True
  | n, form :: forms => form.EncodedWith (BitVec.ofNat 8 n) ∧ FormsEncodedFrom (n + 1) forms

theorem FormsEncodedFrom.getElem? {n : Nat} {forms : List OpcodeForm} (h : FormsEncodedFrom n forms) {k : Nat}
    {form : OpcodeForm} (there : forms[k]? = some form) : form.EncodedWith (BitVec.ofNat 8 (n + k)) := by
  induction forms generalizing n k with
  | nil => simp at there
  | cons first rest ih =>
    obtain ⟨here, later⟩ := h
    cases k with
    | zero =>
      obtain rfl : first = form := by simpa using there
      exact here
    | succ k =>
      rw [show n + (k + 1) = n + 1 + k by omega]
      exact ih later (by simpa using there)

/-- The opcode map row by row (30_encoding.md R120). -/
theorem opcodeRow_encoded : ∀ row : Nat, FormsEncodedFrom (16 * row) (opcodeRow row)
  | 0 | 1 | 2 | 3 | 4 | 5 | 6 | 7 | 8 | 9 | 10 | 11 | 12 | 13 | 14 | 15 => by
    and_intros <;> first | exact rfl | exact fun _ => ⟨rfl, rfl⟩ | exact trivial
  | _ + 16 => trivial

theorem opcodeForm_encoded (op : Byte) : (opcodeForm op).EncodedWith op := by
  unfold opcodeForm
  cases there : (opcodeRow (op.toNat / 16))[op.toNat % 16]? with
  | none => trivial
  | some form =>
    have encoded := (opcodeRow_encoded _).getElem? there
    rwa [Nat.div_add_mod, BitVec.ofNat_toNat, BitVec.setWidth_eq] at encoded

/-! ### The decoder by the form of the opcode -/

section
variable {op : Byte} (rest : List Byte)

theorem decode_plain {i : Instr} (form : opcodeForm op = .plain i) : decode (op :: rest) = .ok (i, rest) := by
  simp only [decode, form]

theorem decode_byteOperand {mk : Byte → Instr} (form : opcodeForm op = .byteOperand mk) (b : Byte) :
    decode (op :: b :: rest) = .ok (mk b, rest) := by
  simp only [decode, form]

theorem decode_wordOperand {mk : Word → Instr} (form : opcodeForm op = .wordOperand mk) (lo hi : Byte) :
    decode (op :: lo :: hi :: rest) = .ok (mk (word hi lo), rest) := by
  simp only [decode, form]

theorem decode_encoded_word {mk : Word → Instr} (form : opcodeForm op = .wordOperand mk) (w : Word) :
    decode (op :: lo8 w :: hi8 w :: rest) = .ok (mk w, rest) := by
  rw [decode_wordOperand rest form, word_hi_lo]

end

/-- Bytes that decode are an opcode that selects the instruction, its operand bytes and the rest. -/
theorem decode_eq_ok {bytes rest : List Byte} {i : Instr} (h : decode bytes = .ok (i, rest)) :
    (∃ op, opcodeForm op = .plain i ∧ bytes = op :: rest) ∨
    (∃ op mk b, opcodeForm op = .byteOperand mk ∧ i = mk b ∧ bytes = op :: b :: rest) ∨
    (∃ op mk lo hi, opcodeForm op = .wordOperand mk ∧ i = mk (word hi lo) ∧ bytes = op :: lo :: hi :: rest) := by
  unfold decode at h
  split at h
  case h_1 => cases h
  case h_2 op tail =>
    split at h
    case h_1 form => cases h; exact .inl ⟨op, form, rfl⟩
    case h_2 form => cases h; exact .inr (.inl ⟨op, _, _, form, rfl, rfl⟩)
    case h_3 form => cases h; exact .inr (.inr ⟨op, _, _, _, form, rfl, rfl⟩)
    case h_4 => cases h
    case h_5 => cases h

/-! ### Round trips -/

/-- Settles O1: an operand byte is read back as it is, a word from its two halves. -/
theorem decodeEncodeRoundTrip : Obligations.DecodeEncodeRoundTrip := by
  intro i rest
  cases i with
  | movAMem w | movBMem w | movCMem w | movDMem w | movMemA w | movMemB w | movMemC w | movMemD w
  | movSpImm w | movBpImm w | movSiImm w | movDiImm w | movSpMem w | movBpMem w | movSiMem w | movDiMem w
  | movMemSp w | movMemBp w | movMemSi w | movMemDi w
  | jmp w | jz w | jnz w | jc w | jnc w | jv w | jnv w | call w => exact decode_encoded_word rest rfl w
  | _ => rfl

/-- Settles O2: what the opcode selects is encoded with that opcode, whatever the operand. -/
theorem encodeDecodeRoundTrip : Obligations.EncodeDecodeRoundTrip := by
  intro bytes rest i h
  rcases decode_eq_ok h with ⟨op, form, rfl⟩ | ⟨op, mk, b, form, rfl, rfl⟩ | ⟨op, mk, lo, hi, form, rfl, rfl⟩
  all_goals
    have encoded := opcodeForm_encoded op
    rw [form] at encoded
  · rw [show encode i = [op] from encoded]
    rfl
  · rw [(encoded b).1]
    rfl
  · rw [(encoded (word hi lo)).1, lo8_word, hi8_word]
    rfl

/-! ### Operand bytes and unassigned opcodes -/

open Machine in
/-- Settles O5: the operand's length decides the form of the opcode, and every operand of that form is accepted. -/
theorem operandBytesNeverRefused : Obligations.OperandBytesNeverRefused := by
  intro op e operands rest entry length
  rw [defaultEntry_eq_entry] at entry
  have encoded := opcodeForm_encoded op
  cases form : opcodeForm op with
  | unassigned =>
    rw [form] at entry
    cases entry
  | plain i =>
    rw [form] at entry encoded
    obtain rfl : microcode i = e := by simpa [OpcodeForm.entry] using entry
    have mode := encode_length i
    rw [show encode i = [op] from encoded, ← length] at mode
    obtain rfl : operands = [] := List.eq_nil_of_length_eq_zero (by simpa using mode)
    exact ⟨i, decode_plain rest form, encoded, rfl⟩
  | byteOperand mk =>
    rw [form] at entry encoded
    obtain rfl : microcode (mk 0) = e := by simpa [OpcodeForm.entry] using entry
    have mode := encode_length (mk 0)
    rw [(encoded 0).1, ← length] at mode
    obtain ⟨b, rfl⟩ := List.length_eq_one_iff.mp (show operands.length = 1 by simp at mode; omega)
    exact ⟨mk b, decode_byteOperand rest form b, (encoded b).1, (encoded b).2⟩
  | wordOperand mk =>
    rw [form] at entry encoded
    obtain rfl : microcode (mk 0) = e := by simpa [OpcodeForm.entry] using entry
    have mode := encode_length (mk 0)
    rw [(encoded 0).1, ← length] at mode
    obtain ⟨lo, hi, rfl⟩ := List.length_eq_two.mp (show operands.length = 2 by simp at mode; omega)
    have whole := (encoded (word hi lo)).1
    rw [lo8_word, hi8_word] at whole
    exact ⟨mk (word hi lo), decode_wordOperand rest form lo hi, whole, (encoded (word hi lo)).2⟩

/-- The holes of the opcode map, row by row. -/
theorem defaultEntry_isNone_iff : ∀ op : Byte, (Machine.defaultEntry op).isNone = true ↔
    (0x4D ≤ op.toNat ∧ op.toNat ≤ 0x4F) ∨ (0x69 ≤ op.toNat ∧ op.toNat ≤ 0x6F) ∨
      (0xD8 ≤ op.toNat ∧ op.toNat ≤ 0xDF) ∨ (0xF0 ≤ op.toNat ∧ op.toNat ≤ 0xFE) := by
  decide

/-- The decoder calls an opcode unassigned only if the table has no entry for it. -/
theorem defaultEntry_of_decode_unassigned {op : Byte} {rest : List Byte}
    (h : decode (op :: rest) = .error (.unassigned op)) : Machine.defaultEntry op = none := by
  rw [Machine.defaultEntry_eq_entry]
  simp only [decode] at h
  split at h
  case h_4 form => rw [form]; rfl
  all_goals cases h

/-- Settles O4: the decoder refuses exactly the opcodes that the table has no entry for, and those are the listed ones. -/
theorem unassignedOpcodesRefused : Obligations.UnassignedOpcodesRefused := by
  intro op rest
  split
  case isTrue listed =>
    have noEntry := Option.isNone_iff_eq_none.mp ((defaultEntry_isNone_iff op).mpr listed)
    exact ⟨noEntry, Machine.decode_of_no_entry noEntry rest⟩
  case isFalse other =>
    have entry : Machine.defaultEntry op ≠ none := fun noEntry =>
      other ((defaultEntry_isNone_iff op).mp (Option.isNone_iff_eq_none.mpr noEntry))
    exact ⟨Option.isSome_iff_ne_none.mpr entry, fun refused => entry (defaultEntry_of_decode_unassigned refused)⟩

/-- Settles O6: the words, byte by byte, through the decoder. -/
theorem decodesWrittenWords : Obligations.DecodesWrittenWords := by
  and_intros <;> rfl

end Sys2Proof
end

section
/-! PROOFS. A step is the controller's run of the microcode (42_controller.md sections 1 and 2, log 11): the operand bytes that
an instruction is given are those its fetch cycles would read, since no cycle before them writes memory. -/

namespace Sys2Proof.Machine

open Sys2Proof

/-! ### The instruction stream -/

/-- The bytes lie in memory from the address on, wrapping at 0xFFFF. -/
def StreamAt (m : Memory) : Word → List Byte → Prop
  | _, [] => True
  | a, b :: bytes => m.readByte a.toNat = some b ∧ StreamAt m (a + 1) bytes

theorem streamAt_of_readStream {m : Memory} {n : Nat} {a : Word} {bytes rest : List Byte}
    (h : readStream m n a = bytes ++ rest) : StreamAt m a bytes := by
  induction bytes generalizing n a with
  | nil => trivial
  | cons b bytes ih =>
    cases n with
    | zero => simp [readStream] at h
    | succ n =>
      cases mapped : m.readByte a.toNat with
      | none => simp [readStream, mapped] at h
      | some v =>
        obtain ⟨rfl, tail⟩ : v = b ∧ readStream m n (a + 1) = bytes ++ rest := by
          simpa [readStream, mapped] using h
        exact ⟨mapped, ih tail⟩

/-! ### The entry that decodes -/

/-- The default table's entry for an opcode is that of any instruction the opcode selects (30_encoding.md R100). -/
theorem defaultEntry_of_decode {op : Byte} {bytes rest : List Byte} {i : Instr}
    (h : decode (op :: bytes) = .ok (i, rest)) : defaultEntry op = some (microcode i) := by
  rw [defaultEntry_eq_entry]
  have encoded := opcodeForm_encoded op
  rcases decode_eq_ok h with ⟨_, form, eq⟩ | ⟨_, mk, b, form, rfl, eq⟩ | ⟨_, mk, lo, hi, form, rfl, eq⟩
  all_goals
    cases eq
    rw [form] at encoded ⊢
  · rfl
  · rw [(encoded b).2]
    rfl
  · rw [(encoded (word hi lo)).2]
    rfl

theorem defaultEntry_opcode (i : Instr) : defaultEntry i.opcode = some (microcode i) := by
  refine defaultEntry_of_decode (bytes := (encode i).tail) (rest := []) ?_
  rw [← encode_eq_opcode_cons]
  simpa using decodeEncodeRoundTrip i []

theorem instructionAt_eq_some {s : State} {i : Instr} (h : instructionAt s = some i) :
    s.control = .fetchOpcode1 ∧ s.table = .default ∧ ∃ rest, decode (fetchBytes s) = .ok (i, rest) := by
  unfold instructionAt at h
  split at h
  case h_1 control table =>
    split at h
    case h_1 rest decoded =>
      cases h
      exact ⟨control, table, rest, decoded⟩
    case h_2 => cases h
  case h_2 => cases h

/-! ### The operand fetch -/

/-- The cycle that sets MEMADDR to the address of a single operand byte (42_controller.md R228). -/
abbrev byteAddress : Step := .xaddr (.addr .pc) (.addr .memaddr) OpFlags.inc

/-- The cycle that sets MEMADDR to the address of a word operand (42_controller.md R229). -/
abbrev wordAddress : Step := .xaddr (.addr .pc) (.addr .memaddr)

/-- The MSB selector of the two reads of a word operand: set in the first if the high byte comes first, else in the second
(42_controller.md R229). -/
abbrev msbIf (b : Bool) : OpFlags := if b then OpFlags.msb else 0#4

/-- The cycles of an entry with one operand byte: its address, its read, and cycles that do not depend on it. -/
theorem bodyCycles_byteOperand {e : Entry} (one : operandBytes e.mode = 1) :
    ∃ put rest, (∀ b, bodyCycles e [b] = (byteAddress, none) :: (.xdata .mem put, some b) :: rest) ∧
      bodyCycles e [] = (byteAddress, none) :: (.xdata .mem put, none) :: rest := by
  obtain ⟨name, mode, subject, cond, msbFirst, steps⟩ := e
  cases mode with
  | immediateByte | indexedByte | indexedWord => exact ⟨_, _, fun _ => rfl, rfl⟩
  | implied | immediateWord | indirectByte | indirectWord => simp [operandBytes] at one

/-- A word operand is fetched into an address register that is not the cursor (30_encoding.md R106). -/
theorem subject_immediateWord {e : Entry} (wf : e.wellFormed = true) (mode : e.mode = .immediateWord) :
    ∃ r, r ≠ .memaddr ∧ e.subject = some (.addr r) := by
  simp only [Entry.wellFormed, Bool.and_eq_true, and_assoc] at wf
  obtain ⟨-, -, subject, -⟩ := wf
  simp only [Entry.ewSubject, mode] at subject
  cases of : e.subject with
  | none => simp [of] at subject
  | some c => cases c <;> simp_all [CompId.isAddr]

/-- The cycles of an entry with a word operand: its address, its two reads into one register, and cycles that do not depend
on it. -/
theorem bodyCycles_wordOperand {e : Entry} (wf : e.wellFormed = true) (two : operandBytes e.mode = 2) :
    wordSubject e ≠ .memaddr ∧ ∃ rest,
      (∀ lo hi, bodyCycles e [lo, hi] = (wordAddress, none) ::
        (.xdata .mem (.addr (wordSubject e)) (OpFlags.inc ||| msbIf e.msbFirst), some lo) ::
        (.xdata .mem (.addr (wordSubject e)) (OpFlags.inc ||| msbIf !e.msbFirst), some hi) :: rest) ∧
      bodyCycles e [] = (wordAddress, none) ::
        (.xdata .mem (.addr (wordSubject e)) (OpFlags.inc ||| msbIf e.msbFirst), none) ::
        (.xdata .mem (.addr (wordSubject e)) (OpFlags.inc ||| msbIf !e.msbFirst), none) :: rest := by
  cases mode : e.mode with
  | implied | immediateByte | indexedByte | indexedWord => simp [mode, operandBytes] at two
  | immediateWord =>
    obtain ⟨r, cursor, subject⟩ := subject_immediateWord wf mode
    simp only [wordSubject, mode, subject, bodyCycles, fetchOperands, fetchWord, Option.getD_some]
    cases e.msbFirst <;> exact ⟨cursor, _, fun _ _ => rfl, rfl⟩
  | indirectByte | indirectWord =>
    simp only [wordSubject, mode, bodyCycles, fetchOperands, fetchWord]
    cases e.msbFirst <;> exact ⟨by decide, _, fun _ _ => rfl, rfl⟩

/-! ### Given bytes and read bytes -/

theorem runCycles_stream_read {e : Entry} {st : Step} {v : Byte} {rest : List (Step × Option Byte)} {k : Nat} {s : State}
    (mapped : s.mem.readByte s.regs.memaddr.toNat = some v) :
    runCycles e ((st, some v) :: rest) k s = runCycles e ((st, none) :: rest) k s := by
  rw [runCycles_cons, runCycles_cons, cycle_fetched _ mapped]

/-- A cycle before the last is never suppressed. -/
theorem runCycles_inner {e : Entry} {st : Step} {b : Option Byte} {c : Step × Option Byte}
    {rest : List (Step × Option Byte)} {k : Nat} {s t : State} (run : cycle st false b s = .next t) :
    runCycles e ((st, b) :: c :: rest) k s = runCycles e (c :: rest) (k + 1) { t with control := .running e (k + 1) } := by
  rw [runCycles_cons, List.isEmpty_cons, suppressed_inner, run, andThen_next]

theorem Regs.memaddr_setWord_other {r : AddrReg} (h : r ≠ .memaddr) (g : Regs) (w : Word) :
    (g.setWord r w).memaddr = g.memaddr :=
  Regs.getWord_setWord_other g (r' := .memaddr) w h.symm

/-- A byte of the instruction stream goes to one half of a register, and MEMADDR to the next (42_controller.md R229). -/
theorem cycleTakes_stream_half {r : AddrReg} (cursor : r ≠ .memaddr) (first : Bool) (v : Byte) {g : Regs} {f : Flags} :
    CycleTakes (.xdata .mem (.addr r) (OpFlags.inc ||| msbIf first), some v) g f
      ({ g with memaddr := g.memaddr + 1 }.setWord r (loadByte (msbIf first) (g.getWord r) v)) f := by
  rintro s rfl rfl
  refine ⟨_, cycle_stream_addr .., ?_, rfl, ⟨rfl, rfl, rfl, rfl⟩, rfl⟩
  rw [Regs.getWord_setWord_other _ _ cursor]
  cases first <;> rfl

/-- A single operand byte at PC may be given to the cycles or read by them. -/
theorem runCycles_stream_byte {e : Entry} {put : CompId} {v : Byte} {rest : List (Step × Option Byte)} {k : Nat}
    {s : State} (mapped : s.mem.readByte s.regs.pc.toNat = some v) :
    runCycles e ((byteAddress, none) :: (.xdata .mem put, some v) :: rest) k s =
      runCycles e ((byteAddress, none) :: (.xdata .mem put, none) :: rest) k s := by
  obtain ⟨t, run, regs, -, -, mem⟩ := cycleTakes_stream_address (b := none) s rfl rfl
  rw [runCycles_inner run, runCycles_inner run]
  refine runCycles_stream_read ?_
  rw [mem, regs]
  exact mapped

/-- The bytes of a word operand at PC may be given to the cycles or read by them. -/
theorem runCycles_stream_word {e : Entry} {r : AddrReg} (cursor : r ≠ .memaddr) {first second : Bool} {lo hi : Byte}
    {rest : List (Step × Option Byte)} {k : Nat} {s : State} (mappedLo : s.mem.readByte s.regs.pc.toNat = some lo)
    (mappedHi : s.mem.readByte (s.regs.pc + 1).toNat = some hi) :
    runCycles e ((wordAddress, none) :: (.xdata .mem (.addr r) (OpFlags.inc ||| msbIf first), some lo) ::
        (.xdata .mem (.addr r) (OpFlags.inc ||| msbIf second), some hi) :: rest) k s =
      runCycles e ((wordAddress, none) :: (.xdata .mem (.addr r) (OpFlags.inc ||| msbIf first), none) ::
        (.xdata .mem (.addr r) (OpFlags.inc ||| msbIf second), none) :: rest) k s := by
  obtain ⟨t, run, regs, -, -, mem⟩ := cycleTakes_addr_addr (b := none) .pc .memaddr s rfl rfl
  have low : t.mem.readByte t.regs.memaddr.toNat = some lo := by
    rw [mem, regs]
    exact mappedLo
  obtain ⟨u, run', regs', -, -, mem'⟩ :=
    cycleTakes_stream_half cursor first lo { t with control := .running e (k + 1) } rfl rfl
  have high : u.mem.readByte u.regs.memaddr.toNat = some hi := by
    rw [mem', mem, regs', Regs.memaddr_setWord_other cursor, regs]
    exact mappedHi
  rw [runCycles_inner run, runCycles_inner run, runCycles_inner run',
    runCycles_inner ((cycle_fetched (s := { t with control := .running e (k + 1) }) false low).symm.trans run')]
  exact runCycles_stream_read high

/-- An operand whose bytes lie at PC may be given to the body or read by it. -/
theorem runBody_stream {e : Entry} (wf : e.wellFormed = true) {bytes : List Byte}
    (length : bytes.length = operandBytes e.mode) {s : State} (there : StreamAt s.mem s.regs.pc bytes) :
    runBody e bytes s = runBody e [] s := by
  rcases bytes with _ | ⟨lo, _ | ⟨hi, _ | ⟨_, _⟩⟩⟩
  · rfl
  · obtain ⟨put, rest, given, read⟩ := bodyCycles_byteOperand length.symm
    obtain ⟨mapped, -⟩ := there
    rw [runBody, runBody, given, read]
    exact runCycles_stream_byte mapped
  · obtain ⟨cursor, rest, given, read⟩ := bodyCycles_wordOperand wf length.symm
    obtain ⟨mappedLo, mappedHi, -⟩ := there
    rw [runBody, runBody, given, read]
    exact runCycles_stream_word cursor mappedLo mappedHi
  · have longest : operandBytes e.mode ≤ 2 := by cases e.mode <;> decide
    simp only [List.length_cons] at length
    omega

/-! ### The step -/

theorem decodeOpcode_of_entry {k : Entry → State → Out} {t : State} {e : Entry}
    (h : tableEntry t.table t.regs.ir = some e) (wf : e.wellFormed = true) : decodeOpcode k t = k e t := by
  simp [decodeOpcode, h, wf]

/-- The meaning of the instruction at PC is the controller's run from there. -/
theorem exec_eq_finishInstruction {s : State} {i : Instr} (h : instructionAt s = some i) :
    exec i s = finishInstruction s := by
  obtain ⟨control, table, rest, decoded⟩ := instructionAt_eq_some h
  have bytes : StreamAt s.mem s.regs.pc (encode i) := streamAt_of_readStream (encodeDecodeRoundTrip _ _ _ decoded)
  rw [encode_eq_opcode_cons] at bytes
  obtain ⟨mapped, operands⟩ := bytes
  obtain ⟨t, fetch, regs, -, mem, -, -, table', -⟩ := fetchOpcode_stream i.opcode s
  have entry : tableEntry t.table t.regs.ir = some (microcode i) := by
    rw [table', table, regs]
    exact defaultEntry_opcode i
  have length : (encode i).tail.length = operandBytes (microcode i).mode := by
    rw [List.length_tail, encode_length]
    omega
  have body : runBody (microcode i) (encode i).tail t = runBody (microcode i) [] t :=
    runBody_stream (microcode_wellFormed i) length (by rw [mem, regs]; exact operands)
  rw [exec_eq_runEntry, runEntry, encode_eq_opcode_cons, List.head?_cons, fetch, andThen_next, List.tail_cons, body]
  simp only [finishInstruction, control, fetchOpcode_mapped mapped, fetch, andThen_next,
    decodeOpcode_of_entry entry (microcode_wellFormed i)]

/-- Any step: a halted machine stays, any other runs the microcode. -/
theorem step_eq (s : State) : step s = if halted s then .next s else finishInstruction s := by
  simp only [step, stepInstruction]
  split
  · rfl
  · split
    case h_1 h => exact exec_eq_finishInstruction h
    case h_2 => rfl

theorem halted_of_running {s : State} (running : s.lines.halt = false) : halted s = false := by
  simp [halted, running]

/-- Settles O8: at an instruction the given bytes are those that are read; elsewhere the step is the run itself. -/
theorem stepIsTheMicrocodeRun : Obligations.StepIsTheMicrocodeRun := by
  intro s running
  rw [step_eq, halted_of_running running]
  rfl

/-- Settles O7: the instruction that the bytes at PC decode to is the one the step dispatches. -/
theorem stepRunsDecodedInstruction : Obligations.StepRunsDecodedInstruction := by
  intro s i rest ready decoded
  obtain ⟨running, control, table⟩ := ready
  have here : instructionAt s = some i := by simp only [instructionAt, control, table, decoded]
  simp [step, stepInstruction, halted_of_running running, here]

/-- Settles O13: both the step and the cycle look at halt before anything else. -/
theorem haltedMachineStays : Obligations.HaltedMachineStays := by
  intro s halt control
  have stopped : halted s = true := by simp [halted, halt, control]
  exact ⟨by simp [step, stepInstruction, stopped], by simp [clock, stopped]⟩

end Sys2Proof.Machine
end

section
/-! PROOFS. A step is a number of single cycles (42_controller.md sections 1, 4 and 6): the controller's cycle, from each place
of an instruction's cycle list, does what the run does there. -/

namespace Sys2Proof.Machine

open Sys2Proof

/-! ### Cycles one after the other -/

theorem clocks_add (m n : Nat) (s : State) : clocks (m + n) s = andThen (clocks m s) (clocks n) := by
  induction m generalizing s with
  | zero => rw [Nat.zero_add, clocks, andThen_next]
  | succ m ih =>
    rw [Nat.succ_add, clocks, clocks, andThen_assoc]
    exact congrArg (andThen _) (funext ih)

/-- One more cycle after `n` that complete. -/
theorem clocks_succ {n : Nat} {s t : State} (before : clocks n s = .next t) : clocks (n + 1) s = clock t := by
  rw [clocks_add, before, andThen_next, clocks]
  cases clock t <;> rfl

/-- The outcome is that of single cycles from `s`: if it completes, the counter has their number; if it raises, nothing is
retired; a refusal or an error is that of one cycle after some that complete. -/
def ByCycles (s : State) : Out → Prop
  | .next t => ∃ n, clocks n s = .next t ∧ t.count = s.count + n
  | .fault f => ∃ n u, clocks n s = .next u ∧ clock u = .fault f ∧ NothingRetired s f.left
  | .refused r => ∃ n u, clocks n s = .next u ∧ clock u = .refused r

/-- `n` cycles from `s` complete in `t` and retire nothing. -/
structure ClockedTo (n : Nat) (s t : State) : Prop where
  run : clocks n s = .next t
  unretired : NothingRetired s t

/-- From `t`, where `n` cycles led, the next cycle runs as `o` and continues with `k`: what follows is by cycles if what
follows each next state is. -/
theorem ClockedTo.next_cycle {n : Nat} {s t : State} {o : Out} {k advance : State → Out} (before : ClockedTo n s t)
    (here : clock t = takeError (andThen o advance)) (unretired : UnretiredOut s o)
    (rest : ∀ u, o = .next u → NothingRetired s u → ByCycles s (takeError (k u))) :
    ByCycles s (takeError (andThen o k)) := by
  cases o with
  | next u => exact rest u rfl unretired
  | fault f => exact ⟨n, t, before.run, here, by rw [Fault.left_mapLeft]; exact unretired⟩
  | refused r => exact ⟨n, t, before.run, here⟩

/-! ### The length of the cycle list -/

theorem length_supply (cs : List (Step × Bool)) (bytes : List Byte) : (supply cs bytes).length = cs.length := by
  induction cs generalizing bytes with
  | nil => rfl
  | cons c cs ih =>
    obtain ⟨st, stream⟩ := c
    cases stream <;> cases bytes <;> simp [supply, ih]

/-- The operand fetch has the cycles of its mode (42_controller.md R227). -/
theorem length_fetchOperands (e : Entry) : (fetchOperands e).length = fetchCycles e.mode := by
  obtain ⟨name, mode, subject, cond, msbFirst, steps⟩ := e
  cases mode <;> rfl

/-- The cost of an instruction is the number of its cycles (42_controller.md R251). -/
theorem cost_eq_length (e : Entry) (bytes : List Byte) : cost e = 2 + (bodyCycles e bytes).length := by
  rw [cost, bodyCycles, List.length_append, length_supply, length_fetchOperands, List.length_map, Nat.add_assoc]

/-! ### Inside an instruction -/

theorem clock_running {e : Entry} {k : Nat} {st : Step} {b : Option Byte} {rest : List (Step × Option Byte)} {s : State}
    (control : s.control = .running e k) (place : cyclesFrom e k = (st, b) :: rest) :
    clock s = takeError (andThen (cycle st (suppressed e rest.isEmpty s.flags) b s) fun t =>
      .next (advance e rest.isEmpty k t)) := by
  have going : halted s = false := by simp [halted, control]
  simp only [clock, going, control, place]
  rfl

theorem cyclesFrom_succ {e : Entry} {k : Nat} {c : Step × Option Byte} {rest : List (Step × Option Byte)} (body : 2 ≤ k)
    (place : cyclesFrom e k = c :: rest) : cyclesFrom e (k + 1) = rest := by
  rw [cyclesFrom, show k + 1 - 2 = (k - 2) + 1 by omega, ← List.tail_drop]
  exact congrArg List.tail place

/-- The run of the cycles from place `k` on, where as many cycles led, is by cycles: each but the last leads to the next
place, and the last retires. -/
theorem ClockedTo.runCycles {e : Entry} {cs : List (Step × Option Byte)} {k : Nat} {s t : State} (before : ClockedTo k s t)
    (control : t.control = .running e k) (body : 2 ≤ k) (place : cyclesFrom e k = cs) (more : cs ≠ [])
    (total : k + cs.length = cost e) : ByCycles s (takeError (Machine.runCycles e cs k t)) := by
  induction cs generalizing k t with
  | nil => exact absurd rfl more
  | cons c rest ih =>
    obtain ⟨st, b⟩ := c
    have here := clock_running control place
    refine before.next_cycle here (cycle_unretired before.unretired ..) fun u run unretired => ?_
    rw [run, andThen_next, takeError_next] at here
    have clocked := clocks_succ before.run
    rw [here] at clocked
    cases rest with
    | nil =>
      refine ⟨k + 1, clocked, ?_⟩
      rw [retire_count, ← total, unretired.1]
      rfl
    | cons c' rest' =>
      exact ih ⟨clocked, unretired⟩ rfl (by omega) (cyclesFrom_succ body place) (by simp)
        (by rw [← total, List.length_cons (a := (st, b))]; omega)

/-! ### From the opcode fetch -/

/-- After the opcode fetch, an instruction without further cycles retires at once; any other goes on to its first cycle. -/
theorem ClockedTo.runBody {e : Entry} {s t u : State} (before : ClockedTo 1 s t) (unretired : NothingRetired s u)
    (here : clock t = .next (advance e (cyclesFrom e 2).isEmpty 1 u)) : ByCycles s (takeError (Machine.runBody e [] u)) := by
  have clocked := clocks_succ before.run
  have total := cost_eq_length e []
  have place : cyclesFrom e 2 = bodyCycles e [] := rfl
  rw [here, place] at clocked
  rw [Machine.runBody]
  cases cycles : bodyCycles e [] with
  | nil =>
    rw [cycles] at clocked total
    refine ⟨2, clocked, ?_⟩
    rw [retire_count, total, unretired.1]
    rfl
  | cons c rest =>
    rw [cycles] at clocked place total
    exact ClockedTo.runCycles (t := { u with control := .running e 2 }) ⟨clocked, unretired⟩ rfl (Nat.le_refl 2) place
      (by simp) total.symm

theorem clock_fetchOpcode2 {t : State} (control : t.control = .fetchOpcode2) :
    clock t = takeError (andThen (cycle fetchStep2 false none t)
      (decodeOpcode fun e u => .next (advance e (cyclesFrom e 2).isEmpty 1 u))) := by
  have going : halted t = false := by simp [halted, control]
  simp only [clock, going, control]
  rfl

/-- The decode check either ends the instruction in the cycle of the second fetch or goes on with an entry. -/
theorem ClockedTo.decode {s t u : State} (before : ClockedTo 1 s t) (unretired : NothingRetired s u)
    (here : clock t = takeError (decodeOpcode (fun e v => .next (advance e (cyclesFrom e 2).isEmpty 1 v)) u)) :
    ByCycles s (takeError (decodeOpcode (fun e => Machine.runBody e []) u)) := by
  cases entry : tableEntry u.table u.regs.ir with
  | none =>
    rw [decodeOpcode_of_no_entry entry] at here ⊢
    exact ⟨1, t, before.run, here, unretired⟩
  | some e =>
    cases wf : e.wellFormed with
    | false =>
      rw [decodeOpcode_of_illFormed entry wf] at here ⊢
      exact ⟨1, t, before.run, here, unretired⟩
    | true =>
      rw [decodeOpcode_of_entry entry wf] at here ⊢
      exact before.runBody unretired here

theorem clock_fetchOpcode1 {s : State} (running : s.lines.halt = false) (control : s.control = .fetchOpcode1) :
    clock s = takeError (andThen (cycle fetchStep1 false none s) fun t => .next { t with control := .fetchOpcode2 }) := by
  simp only [clock, halted_of_running running, control]
  rfl

/-- The run of an instruction is by cycles, from the first opcode fetch on. -/
theorem finishInstruction_byCycles {s : State} (running : s.lines.halt = false) (control : s.control = .fetchOpcode1) :
    ByCycles s (finishInstruction s) := by
  have start : ClockedTo 0 s s := ⟨rfl, (Quiet.refl s).nothingRetired⟩
  have first := clock_fetchOpcode1 running control
  simp only [finishInstruction, control, fetchOpcode, andThen_assoc]
  refine start.next_cycle first (cycle_unretired start.unretired ..) fun t fetch unretired => ?_
  rw [fetch, andThen_next, takeError_next] at first
  have second : ClockedTo 1 s { t with control := .fetchOpcode2 } := ⟨(clocks_succ start.run).trans first, unretired⟩
  have here := clock_fetchOpcode2 (t := { t with control := .fetchOpcode2 }) rfl
  refine second.next_cycle here (cycle_unretired second.unretired ..) fun u fetch' unretired' => ?_
  rw [fetch', andThen_next] at here
  exact second.decode unretired' here

/-- Settles O9: the step is the run of the microcode, whose cycles are the controller's. -/
theorem clocksComposeToStep : Obligations.ClocksComposeToStep := by
  intro s running control
  have byCycles : ByCycles s (step s) := by
    rw [stepIsTheMicrocodeRun s running]
    exact finishInstruction_byCycles running control
  refine ⟨fun t completes => ?_, fun f raises => ?_, fun r refuses => ?_⟩
  · rwa [completes] at byCycles
  · rwa [raises] at byCycles
  · rwa [refuses] at byCycles

end Sys2Proof.Machine
end

section
/-! PROOFS. What every step and every cycle keeps: the canonical form of memory, a well-formed entry in the controller, and what
the host configured (10_state.md sections 5 and 7, 20_memory.md sections 2 and 8). -/

namespace Sys2Proof.Machine

open Sys2Proof

/-! ### Steps and cycles are steady -/

theorem step_steady (s : State) : SteadyOut s (step s) := by
  rw [step_eq]
  split
  · exact .refl s
  · exact finishInstruction_steady s

theorem steadyOut_withControl (s : State) (c : Control) : SteadyOut s (.next { s with control := c }) :=
  Steady.of_eq rfl rfl rfl rfl

theorem steadyOut_advance (e : Entry) (last : Bool) (k : Nat) (s : State) : SteadyOut s (.next (advance e last k s)) := by
  cases last <;> exact .of_eq rfl rfl rfl rfl

theorem clock_steady (s : State) : SteadyOut s (clock s) := by
  unfold clock
  split
  · exact .refl s
  · split
    · exact ((cycle_steady ..).andThen fun t => steadyOut_withControl t _).takeError
    · exact ((cycle_steady ..).andThen (decodeOpcode_steady fun e t => steadyOut_advance e _ _ t)).takeError
    · split
      · exact .of_eq rfl rfl rfl rfl
      · exact ((cycle_steady ..).andThen fun t => steadyOut_advance _ _ _ t).takeError

/-- Settles O18: every part of a step is steady, and a steady outcome keeps the configuration. -/
theorem stepKeepsConfiguration : Obligations.StepKeepsConfiguration := by
  intro s l outcome
  have steady : Steady s l := by
    have out := step_steady s
    rcases outcome with run | ⟨f, run, rfl⟩ <;> rwa [run] at out
  exact ⟨steady.banks, steady.readOnly, steady.channels, steady.table, steady.suspend, steady.nmi, steady.runMode,
    steady.halt⟩

/-! ### The controller -/

/-- The controller, if inside an instruction, runs a well-formed entry. -/
def RunsWellFormed (s : State) : Prop := ∀ e k, s.control = .running e k → e.wellFormed = true

/-- The state an outcome has, if any, has a well-formed entry in the controller. -/
def WellFormedOut : Out → Prop
  | .next t => RunsWellFormed t
  | .fault f => RunsWellFormed f.left
  | .refused _ => True

theorem runsWellFormed_fetchOpcode1 {s : State} (control : s.control = .fetchOpcode1) : RunsWellFormed s := by
  intro e k running
  simp [control] at running

theorem runsWellFormed_fetchOpcode2 {s : State} (control : s.control = .fetchOpcode2) : RunsWellFormed s := by
  intro e k running
  simp [control] at running

theorem runsWellFormed_advance {e : Entry} (wf : e.wellFormed = true) (last : Bool) (k : Nat) (s : State) :
    RunsWellFormed (advance e last k s) := by
  cases last with
  | true => exact runsWellFormed_fetchOpcode1 rfl
  | false =>
    intro e' k' running
    cases running
    exact wf

/-- An error leaves the controller between instructions, so only next states matter. -/
theorem wellFormedOut_takeError {o : Out} (h : ∀ t, o = .next t → RunsWellFormed t) : WellFormedOut (takeError o) := by
  cases o with
  | next t => exact h t rfl
  | fault f =>
    show RunsWellFormed (f.mapLeft State.betweenInstructions).left
    rw [Fault.left_mapLeft]
    exact runsWellFormed_fetchOpcode1 rfl
  | refused r => trivial

/-- The outcome, if it completes, has the controller between instructions. -/
def EndsBetween (o : Out) : Prop := ∀ t, o = .next t → t.control = .fetchOpcode1

theorem endsBetween_andThen (o : Out) {f : State → Out} (h : ∀ t, EndsBetween (f t)) : EndsBetween (andThen o f) := by
  intro t run
  obtain ⟨u, -, last⟩ := andThen_eq_next.mp run
  exact h u t last

theorem runCycles_endsBetween (e : Entry) (cs : List (Step × Option Byte)) (k : Nat) (s : State) :
    EndsBetween (runCycles e cs k s) := by
  induction cs generalizing k s with
  | nil =>
    intro t run
    cases run
    rfl
  | cons c rest ih => exact endsBetween_andThen _ fun t => ih _ _

theorem decodeOpcode_endsBetween (s : State) : EndsBetween (decodeOpcode (fun e => runBody e []) s) := by
  unfold decodeOpcode
  split
  · intro t run
    cases run
  · split
    · exact runCycles_endsBetween _ _ _ _
    · intro t run
      cases run

/-- Every instruction that completes leaves the controller between instructions (42_controller.md R240). -/
theorem finishInstruction_wellFormedOut (s : State) : WellFormedOut (finishInstruction s) := by
  have between : ∀ {o : Out}, EndsBetween o → WellFormedOut (takeError o) := fun ends =>
    wellFormedOut_takeError fun t run => runsWellFormed_fetchOpcode1 (ends t run)
  unfold finishInstruction
  split
  · exact between (endsBetween_andThen _ decodeOpcode_endsBetween)
  · exact between (endsBetween_andThen _ decodeOpcode_endsBetween)
  · exact between (runCycles_endsBetween _ _ _ _)

theorem step_wellFormedOut {s : State} (h : RunsWellFormed s) : WellFormedOut (step s) := by
  rw [step_eq]
  split
  · exact h
  · exact finishInstruction_wellFormedOut s

/-- Only an entry that passed the check of R241 comes into the controller. -/
theorem clock_wellFormedOut {s : State} (h : RunsWellFormed s) : WellFormedOut (clock s) := by
  unfold clock
  split
  · exact h
  · split
    case h_1 =>
      refine wellFormedOut_takeError fun t run => ?_
      obtain ⟨u, -, last⟩ := andThen_eq_next.mp run
      cases last
      exact runsWellFormed_fetchOpcode2 rfl
    case h_2 =>
      refine wellFormedOut_takeError fun t run => ?_
      obtain ⟨u, -, last⟩ := andThen_eq_next.mp run
      unfold decodeOpcode at last
      split at last
      · cases last
      · split at last
        case isTrue wf =>
          cases last
          exact runsWellFormed_advance wf _ _ _
        case isFalse => cases last
    case h_3 e k control =>
      split
      · exact runsWellFormed_fetchOpcode1 rfl
      · refine wellFormedOut_takeError fun t run => ?_
        obtain ⟨u, -, last⟩ := andThen_eq_next.mp run
        cases last
        exact runsWellFormed_advance (h e k control) _ _ _

/-! ### The canonical form -/

/-- A steady outcome with a well-formed controller is canonical. -/
theorem canonical_of_out {s : State} (canonical : Canonical s) {o : Out} (steady : SteadyOut s o)
    (wellFormed : WellFormedOut o) : (∀ t, o = .next t → Canonical t) ∧ (∀ f, o = .fault f → Canonical f.left) := by
  obtain ⟨mem, -⟩ := canonical
  refine ⟨fun t run => ?_, fun f run => ?_⟩
  all_goals
    subst run
    exact ⟨steady.memWf mem, wellFormed⟩

/-- Settles O10: a memory write is the one change of memory and keeps its form; the controller takes checked entries only. -/
theorem stepKeepsCanonical : Obligations.StepKeepsCanonical := by
  intro s canonical
  obtain ⟨-, controller⟩ := id canonical
  obtain ⟨stepNext, stepFault⟩ := canonical_of_out canonical (step_steady s) (step_wellFormedOut controller)
  obtain ⟨clockNext, clockFault⟩ := canonical_of_out canonical (clock_steady s) (clock_wellFormedOut controller)
  exact ⟨stepNext, stepFault, clockNext, clockFault⟩

/-- Settles O11: there is no bank and no cell, and the controller stands between instructions. -/
theorem resetIsCanonical : Obligations.ResetIsCanonical :=
  ⟨reset_mem_wf, runsWellFormed_fetchOpcode1 rfl⟩

end Sys2Proof.Machine
end

section
/-! PROOFS. What no step observes: RHS and the lines suspend, nmi and run mode (10_state.md sections 2 and 5). A run from a
state with those changed does the same, up to that change; only an ALU operation, which writes RHS, undoes the change of it.
The bus is not observed either, since the first cycle of an instruction drives all of it. -/

namespace Sys2Proof.Machine

open Sys2Proof

/-! ### The input channel -/

section
variable {ch : Fin 16} {s : State}

/-- An installed input channel drives its next byte, which is consumed (47_io_system.md R375). -/
theorem channelInput_of_byte {v : Byte} {rest : List Byte} (installed : s.io.channels[ch.val] = some .input)
    (bytes : s.io.input[ch.val] = v :: rest) :
    channelInput ch s =
      .next (({ s with io := { s.io with input := s.io.input.set ch.val rest } }.driveData v).notify
        (.inputRead ch v)) := by
  simp only [channelInput, installed, bytes]

/-- No byte is invented (93_implementation_defined.md item 13). -/
theorem channelInput_of_exhausted (installed : s.io.channels[ch.val] = some .input)
    (bytes : s.io.input[ch.val] = []) : channelInput ch s = .refused (.inputExhausted ch) := by
  simp only [channelInput, installed, bytes]

theorem channelInput_of_not_installed (missing : s.io.channels[ch.val] ≠ some .input) :
    channelInput ch s = raise .invalidComponentID s := by
  unfold channelInput
  split
  · exact absurd ‹_› missing
  · rfl

end

/-! ### Changing what is not observed -/

/-- The state with RHS and the lines changed. -/
def State.disguise (r : Byte → Byte) (lines : Lines → Lines) (s : State) : State :=
  { s with regs := { s.regs with rhs := r s.regs.rhs }, lines := lines s.lines }

/-- The change of the lines leaves halt and does not depend on it. -/
structure LeavesHalt (lines : Lines → Lines) : Prop where
  halt : ∀ l, (lines l).halt = l.halt
  set : ∀ l, lines { l with halt := true } = { lines l with halt := true }

section
variable (r : Byte → Byte) (lines : Lines → Lines) (s : State)

@[simp] theorem State.disguise_flags : (s.disguise r lines).flags = s.flags := rfl
@[simp] theorem State.disguise_bus : (s.disguise r lines).bus = s.bus := rfl
@[simp] theorem State.disguise_mem : (s.disguise r lines).mem = s.mem := rfl
@[simp] theorem State.disguise_io : (s.disguise r lines).io = s.io := rfl
@[simp] theorem State.disguise_table : (s.disguise r lines).table = s.table := rfl
@[simp] theorem State.disguise_control : (s.disguise r lines).control = s.control := rfl
@[simp] theorem State.disguise_memaddr : (s.disguise r lines).regs.memaddr = s.regs.memaddr := rfl
@[simp] theorem State.disguise_ir : (s.disguise r lines).regs.ir = s.regs.ir := rfl
@[simp] theorem State.disguise_lhs : (s.disguise r lines).regs.lhs = s.regs.lhs := rfl

@[simp] theorem State.disguise_getByte (x : ByteReg) : (s.disguise r lines).regs.getByte x = s.regs.getByte x := by
  cases x <;> rfl

@[simp] theorem State.disguise_getWord (x : AddrReg) : (s.disguise r lines).regs.getWord x = s.regs.getWord x := by
  cases x <;> rfl

@[simp] theorem State.disguise_programBus (st : Step) :
    programBus st (s.disguise r lines) = (programBus st s).disguise r lines := rfl

@[simp] theorem State.disguise_driveData (v : Byte) :
    (s.disguise r lines).driveData v = (s.driveData v).disguise r lines := rfl

@[simp] theorem State.disguise_driveWord (w : Word) :
    (s.disguise r lines).driveWord w = (s.driveWord w).disguise r lines := rfl

@[simp] theorem State.disguise_setWord (x : AddrReg) (w : Word) :
    (s.disguise r lines).setWord x w = (s.setWord x w).disguise r lines := by
  cases x <;> rfl

@[simp] theorem State.disguise_latchByte (x : ByteReg) (v : Byte) :
    (s.disguise r lines).latchByte x v = (s.latchByte x v).disguise r lines := by
  cases x <;> rfl

@[simp] theorem State.disguise_latchWord (x : AddrReg) (w : Word) :
    (s.disguise r lines).latchWord x w = (s.latchWord x w).disguise r lines := by
  cases x <;> rfl

end

/-! ### Outcomes -/

@[simp] theorem relabel_next (f : State → State) (s : State) : relabel f (.next s) = .next (f s) := rfl
@[simp] theorem relabel_refused (f : State → State) (r : Refusal) : relabel f (.refused r) = .refused r := rfl
@[simp] theorem relabel_fault (f : State → State) (e : Fault) : relabel f (.fault e) = .fault (e.mapLeft f) := rfl

theorem relabel_relabel (f g : State → State) (o : Out) : relabel f (relabel g o) = relabel (fun s => f (g s)) o := by
  cases o with
  | fault e => cases e <;> rfl
  | next s => rfl
  | refused r => rfl

/-- The operation does the same from a changed state: the outcome is changed alike, or RHS is no longer. -/
def Unobserving (lines : Lines → Lines) (op : State → Out) : Prop :=
  ∀ r s, ∃ r', (r' = r ∨ r' = id) ∧ op (s.disguise r lines) = relabel (·.disguise r' lines) (op s)

section
variable {lines : Lines → Lines}

theorem unobserving_of_commutes {op : State → Out}
    (h : ∀ r s, op (s.disguise r lines) = relabel (·.disguise r lines) (op s)) : Unobserving lines op :=
  fun r s => ⟨r, .inl rfl, h r s⟩

/-- One operation after another. -/
theorem Unobserving.andThen {op k : State → Out} (first : Unobserving lines op) (rest : Unobserving lines k) :
    Unobserving lines fun s => Machine.andThen (op s) k := by
  intro r s
  obtain ⟨r', either, here⟩ := first r s
  simp only [here]
  cases op s with
  | next t =>
    obtain ⟨r'', either', there⟩ := rest r' t
    refine ⟨r'', ?_, there⟩
    rcases either' with rfl | rfl
    · exact either
    · exact .inr rfl
  | fault e => exact ⟨r', either, rfl⟩
  | refused e => exact ⟨r', either, rfl⟩

/-- An operation after a change of the state that commutes. -/
theorem Unobserving.comp {op : State → Out} (h : Unobserving lines op) {f : State → State}
    (commutes : ∀ r s, f (s.disguise r lines) = (f s).disguise r lines) : Unobserving lines fun s => op (f s) := by
  intro r s
  simp only [commutes]
  exact h r (f s)

theorem Unobserving.takeError {op : State → Out} (h : Unobserving lines op) :
    Unobserving lines fun s => Machine.takeError (op s) := by
  intro r s
  obtain ⟨r', either, here⟩ := h r s
  refine ⟨r', either, ?_⟩
  simp only [here]
  cases op s with
  | fault e => cases e <;> rfl
  | next t => rfl
  | refused e => rfl

/-! ### The two phases -/

theorem driveMem_disguise (f : OpFlags) (b : Option Byte) (r : Byte → Byte) (s : State) :
    driveMem f b (s.disguise r lines) = relabel (·.disguise r lines) (driveMem f b s) := by
  simp only [driveMem, State.disguise_mem, State.disguise_memaddr]
  split <;> simp [raise, Fault.mapLeft]

theorem driveByteSide_disguise (st : Step) (b : Option Byte) (r : Byte → Byte) (s : State) :
    driveByteSide st b (s.disguise r lines) = relabel (·.disguise r lines) (driveByteSide st b s) := by
  unfold driveByteSide
  split
  · simp
  · simp [driveAddrByte]
  · exact driveMem_disguise ..
  · rfl
  · rfl

theorem driveWordSide_disguise (st : Step) (r : Byte → Byte) (s : State) :
    driveWordSide st (s.disguise r lines) = relabel (·.disguise r lines) (driveWordSide st s) := by
  unfold driveWordSide
  split <;> simp [raise, Fault.mapLeft]

theorem channelInput_disguise (ch : Fin 16) (r : Byte → Byte) (s : State) :
    channelInput ch (s.disguise r lines) = relabel (·.disguise r lines) (channelInput ch s) := by
  by_cases installed : s.io.channels[ch.val] = some .input
  · cases bytes : s.io.input[ch.val] with
    | nil =>
      rw [channelInput_of_exhausted installed bytes, channelInput_of_exhausted (s := s.disguise r lines) installed bytes]
      rfl
    | cons v rest =>
      rw [channelInput_of_byte installed bytes, channelInput_of_byte (s := s.disguise r lines) installed bytes]
      rfl
  · rw [channelInput_of_not_installed installed, channelInput_of_not_installed (s := s.disguise r lines) installed]
    rfl

theorem channelOutput_disguise (ch : Fin 16) (r : Byte → Byte) (s : State) :
    channelOutput ch (s.disguise r lines) = relabel (·.disguise r lines) (channelOutput ch s) := by
  by_cases installed : s.io.channels[ch.val] = some .output
  · rw [channelOutput_of_installed installed, channelOutput_of_installed (s := s.disguise r lines) installed]
    rfl
  · rw [channelOutput_of_not_installed installed, channelOutput_of_not_installed (s := s.disguise r lines) installed]
    rfl

theorem risingEdge_disguise (st : Step) (b : Option Byte) (r : Byte → Byte) (s : State) :
    risingEdge st b (s.disguise r lines) = relabel (·.disguise r lines) (risingEdge st b s) := by
  unfold risingEdge
  split
  · exact driveByteSide_disguise ..
  · exact driveWordSide_disguise ..
  · split
    · exact channelInput_disguise ..
    · exact driveByteSide_disguise ..
  · rfl

theorem latchMem_disguise (f : OpFlags) (r : Byte → Byte) (s : State) :
    latchMem f (s.disguise r lines) = relabel (·.disguise r lines) (latchMem f s) := by
  simp only [latchMem, State.disguise_mem, State.disguise_memaddr, State.disguise_bus]
  split <;> rfl

/-- The ALU writes RHS with the byte on the bus, whatever it held (41_alu.md R182). -/
theorem aluOperate_unobserving (op : AluOp) : Unobserving lines (aluOperate op) := by
  intro r s
  cases result : aluRaw op s.regs.lhs s.bus.data s.flags.c with
  | none =>
    have wide := (aluRaw_eq_none_iff ..).mp result
    exact ⟨r, .inl rfl, by rw [aluOperate_of_wide wide, aluOperate_of_wide wide]; rfl⟩
  | some raw =>
    refine ⟨id, .inr rfl, ?_⟩
    rw [aluOperate_of_aluRaw result, aluOperate_of_aluRaw (s := s.disguise r lines) result]
    simp only [State.afterAlu]
    split <;> rfl

theorem latchByteSide_unobserving (st : Step) : Unobserving lines (latchByteSide st) := by
  unfold latchByteSide
  cases st.put with
  | byte x => exact unobserving_of_commutes fun r s => by simp
  | addr x => exact unobserving_of_commutes fun r s => by simp [latchAddrByte]
  | mem => exact unobserving_of_commutes (latchMem_disguise _)
  | alu =>
    simp only
    split
    · exact aluOperate_unobserving _
    · exact unobserving_of_commutes fun r s => rfl
  | none => exact unobserving_of_commutes fun r s => rfl

theorem latchWordSide_disguise (st : Step) (r : Byte → Byte) (s : State) :
    latchWordSide st (s.disguise r lines) = relabel (·.disguise r lines) (latchWordSide st s) := by
  unfold latchWordSide
  split
  · simp
  · simp
  · rfl
  · rfl
  · rfl

theorem highClock_unobserving (inert : LeavesHalt lines) (st : Step) : Unobserving lines (highClock st) := by
  unfold highClock
  cases st.kind with
  | xdata => exact latchByteSide_unobserving st
  | xaddr => exact unobserving_of_commutes (latchWordSide_disguise st)
  | io =>
    simp only
    split
    · exact latchByteSide_unobserving st
    · exact unobserving_of_commutes (channelOutput_disguise _)
  | other =>
    refine unobserving_of_commutes fun r s => ?_
    simp only
    split
    · simp only [relabel_next, State.disguise, inert.set]
    · rfl

/-! ### Cycles and runs -/

section
variable (inert : LeavesHalt lines)
include inert

theorem cycle_unobserving (st : Step) (sup : Bool) (b : Option Byte) : Unobserving lines (cycle st sup b) :=
  ((unobserving_of_commutes (risingEdge_disguise _ b)).comp fun _ _ => rfl).andThen (highClock_unobserving inert _)

theorem runCycles_unobserving (e : Entry) (cs : List (Step × Option Byte)) (k : Nat) :
    Unobserving lines (runCycles e cs k) := by
  induction cs generalizing k with
  | nil => exact unobserving_of_commutes fun r s => rfl
  | cons c rest ih =>
    obtain ⟨st, b⟩ := c
    intro r s
    exact ((cycle_unobserving inert st (suppressed e rest.isEmpty s.flags) b).andThen
      ((ih (k + 1)).comp (f := fun t => { t with control := .running e (k + 1) }) fun _ _ => rfl)) r s

theorem runBody_unobserving (e : Entry) (bytes : List Byte) : Unobserving lines (runBody e bytes) :=
  (runCycles_unobserving inert e _ 2).comp fun _ _ => rfl

theorem fetchOpcode2_unobserving (b : Option Byte) :
    Unobserving lines fun t => cycle fetchStep2 false b { t with control := .fetchOpcode2 } :=
  (cycle_unobserving inert fetchStep2 false b).comp fun _ _ => rfl

theorem fetchOpcode_unobserving (b : Option Byte) : Unobserving lines (fetchOpcode b) :=
  (cycle_unobserving inert fetchStep1 false none).andThen (fetchOpcode2_unobserving inert b)

theorem decodeOpcode_unobserving : Unobserving lines (decodeOpcode fun e => runBody e []) := by
  intro r s
  simp only [decodeOpcode, State.disguise_table, State.disguise_ir]
  cases tableEntry s.table s.regs.ir with
  | none => exact ⟨r, .inl rfl, rfl⟩
  | some e =>
    simp only
    split
    · exact runBody_unobserving inert e [] r s
    · exact ⟨r, .inl rfl, rfl⟩

theorem finishInstruction_unobserving : Unobserving lines finishInstruction := by
  intro r s
  unfold finishInstruction
  simp only [State.disguise_control]
  cases s.control with
  | fetchOpcode1 =>
    exact ((fetchOpcode_unobserving inert none).andThen (decodeOpcode_unobserving inert)).takeError r s
  | fetchOpcode2 =>
    exact ((cycle_unobserving inert fetchStep2 false none).andThen (decodeOpcode_unobserving inert)).takeError r s
  | running e k => exact (runCycles_unobserving inert e _ k).takeError r s

theorem halted_disguise (r : Byte → Byte) (s : State) : halted (s.disguise r lines) = halted s := by
  simp only [halted, State.disguise, inert.halt]

theorem step_unobserving : Unobserving lines step := by
  intro r s
  rw [step_eq, step_eq, halted_disguise inert]
  split
  · exact ⟨r, .inl rfl, rfl⟩
  · exact finishInstruction_unobserving inert r s

end

end

/-! ### The lines -/

/-- Other values of suspend, nmi and the run mode. -/
def Lines.withInert (suspend nmi : Bool) (runMode : Nat) (l : Lines) : Lines :=
  { l with suspend := suspend, nmi := nmi, runMode := runMode }

/-- Settles O19: with RHS left alone the change is of the lines only, and the run does not look at those. -/
theorem hostLinesInert : Obligations.HostLinesInert := by
  intro s suspend nmi runMode
  have inert : LeavesHalt (Lines.withInert suspend nmi runMode) := ⟨fun _ => rfl, fun _ => rfl⟩
  obtain ⟨r', either, same⟩ := step_unobserving inert id s
  obtain rfl : r' = id := either.elim id id
  exact same

/-! ### RHS and the bus -/

/-- The first cycle of an instruction programs and drives the whole bus (42_controller.md R226). -/
theorem fetchOpcode_withBus (b : Option Byte) (s : State) (bus : Bus) :
    fetchOpcode b { s with bus := bus } = fetchOpcode b s := by
  simp only [fetchOpcode]
  rw [show cycle fetchStep1 false none s = _ from cycle_xaddr .pc .memaddr OpFlags.inc false none s,
    show cycle fetchStep1 false none { s with bus := bus } = _ from cycle_xaddr .pc .memaddr OpFlags.inc false none _]
  rfl

theorem runEntry_unobserving {lines : Lines → Lines} (inert : LeavesHalt lines) (e : Entry) (bytes : List Byte) :
    Unobserving lines (runEntry e bytes) :=
  ((fetchOpcode_unobserving inert bytes.head?).andThen (runBody_unobserving inert e bytes.tail)).takeError

/-- Settles O20: the opcode fetch drives the bus anew, and the rest of the run does not look at RHS. -/
theorem rhsAndBusNeverObserved : Obligations.RhsAndBusNeverObserved := by
  intro i s x y bus
  have inert : LeavesHalt id := ⟨fun _ => rfl, fun _ => rfl⟩
  obtain ⟨r', -, same⟩ := runEntry_unobserving inert (microcode i) (encode i) (fun _ => y) s
  have bus_irrelevant : exec i ({ s with bus := bus }.withRhs y) = runEntry (microcode i) (encode i) (s.withRhs y) := by
    rw [exec_eq_runEntry]
    exact congrArg (fun o => takeError (andThen o _)) (fetchOpcode_withBus _ (s.withRhs y) bus)
  rw [bus_irrelevant, show s.withRhs y = s.disguise (fun _ => y) id from rfl, same, relabel_relabel, exec_eq_runEntry]
  rfl

end Sys2Proof.Machine
end

section
/-! PROOFS. Banks never overlap (20_memory.md section 2), and what the flags of an addition or subtraction say of its result
(41_alu.md sections 3 and 4). -/

namespace Sys2Proof.Machine

open Sys2Proof

/-! ### Banks -/

/-- The bank that covers an address is the one `bankOf` gives (20_memory.md R62). -/
theorem bankOf_of_covers {m : Memory} (wf : m.wf) {b : Bank} (mem : b ∈ m.banks) {a : Nat} (covers : b.covers a = true) :
    m.bankOf a = some b := by
  obtain ⟨k, found⟩ := Option.isSome_iff_exists.mp (bankOf_isSome.mpr ⟨b, mem, covers⟩)
  have covers' : k.covers a = true := List.find?_some (p := fun b : Bank => b.covers a) found
  rw [found, bank_unique wf (List.mem_of_find?_eq_some found) mem covers' covers]

theorem bankOf_eq_none_iff (m : Memory) (a : Nat) : m.bankOf a = none ↔ ∀ b ∈ m.banks, b.covers a = false := by
  simp [Memory.bankOf]

/-- An address is unmapped exactly where a read fails (20_memory.md R68). -/
theorem bankOf_eq_none_iff_readByte (m : Memory) (a : Nat) : m.bankOf a = none ↔ m.readByte a = none := by
  rw [← Option.isNone_iff_eq_none, ← Option.isNone_iff_eq_none, ← Option.not_isSome, ← Option.not_isSome,
    readByte_isSome]

/-- Settles O23: `add` and `remove` keep the form, in which a covering bank is unique. -/
theorem banksNeverOverlap : Obligations.BanksNeverOverlap :=
  ⟨fun _ _ _ _ _ _ wf added => add_wf added wf, fun _ start wf => remove_wf start wf,
    fun _ _ _ wf mem covers => bankOf_of_covers wf mem covers,
    fun m a => ⟨bankOf_eq_none_iff m a, bankOf_eq_none_iff_readByte m a⟩⟩

/-! ### The binary step -/

/-- Settles O26: the cycle drives the register's byte and runs the operation. -/
theorem aluBinaryStep : Obligations.AluBinaryStep := fun k x s =>
  cycleTakes_byte_binary (b := none) k x s rfl rfl

/-! ### Exactness -/

/-- A binary operation other than CMP leaves its result in LHS and its flags. -/
theorem aluOperate_binary_eq_next {k : BinaryOp} (writes : k ≠ .cmp) {s t : State} (run : aluOperate k.alu s = .next t) :
    t.regs.lhs = binaryResult k s.regs.lhs s.bus.data s.flags.c ∧
      t.flags = binaryFlags k s.regs.lhs s.bus.data s.flags := by
  obtain ⟨u, run', regs, flags, -, -⟩ := aluOperate_binary k s
  cases run.symm.trans run'
  rw [regs]
  exact ⟨if_neg writes, flags⟩

theorem msb_eq_decide_toNat (b : Byte) : b.msb = decide (128 ≤ b.toNat) :=
  BitVec.msb_eq_decide b

/-- A byte as a signed number. -/
theorem toInt_eq_ite_toNat (b : Byte) : b.toInt = if 128 ≤ b.toNat then (b.toNat : Int) - 256 else b.toNat := by
  rw [BitVec.toInt_eq_msb_cond, msb_eq_decide_toNat]
  simp

/-- The exact result of an addition or subtraction on the operands and the carry in, read as numbers. -/
def exactResult (k : BinaryOp) (l r cin : Int) : Int :=
  match k with
  | .add => l + r
  | .adc => l + r + cin
  | .sub => l - r
  | .sbb => l - r - cin
  | _ => 0

/-- The operations that have an exact result, those that write V (41_alu.md R199). -/
def Arithmetic (k : BinaryOp) : Prop := k = .add ∨ k = .adc ∨ k = .sub ∨ k = .sbb

section
variable {k : BinaryOp} (arithmetic : Arithmetic k) (l r : Byte) (f : Flags)
include arithmetic

/-- C is clear exactly if the unsigned result is exact (41_alu.md section 4). -/
theorem binaryFlags_c_exact : (binaryFlags k l r f).c = false ↔
    ((binaryResult k l r f.c).toNat : Int) = exactResult k l.toNat r.toNat (carryNat f.c) := by
  have boundL : l.toNat < 256 := l.isLt
  have boundR : r.toNat < 256 := r.isLt
  have boundC := carryNat_le_one f.c
  rw [binaryFlags, binaryCarry_eq, binaryResult_toNat, decide_eq_false_iff_not]
  rcases arithmetic with rfl | rfl | rfl | rfl <;> simp only [binaryRaw, exactResult] <;> omega

/-- V is clear exactly if the signed result is exact (41_alu.md section 4). -/
theorem binaryFlags_v_exact : (binaryFlags k l r f).v = false ↔
    (binaryResult k l r f.c).toInt = exactResult k l.toInt r.toInt (carryNat f.c) := by
  have boundL : l.toNat < 256 := l.isLt
  have boundR : r.toNat < 256 := r.isLt
  have boundC := carryNat_le_one f.c
  have value := binaryResult_toNat k l r f.c
  rw [toInt_eq_ite_toNat, toInt_eq_ite_toNat, toInt_eq_ite_toNat]
  simp only [binaryFlags]
  generalize binaryResult k l r f.c = res at *
  rcases arithmetic with rfl | rfl | rfl | rfl <;>
    simp only [binaryRaw, exactResult, binaryOverflow, decide_eq_false_iff_not, msb_eq_decide_toNat, ne_eq,
      decide_eq_decide] at * <;>
    split_ifs <;> omega

end

/-- Settles O30: the carry in counts one, and each operation is exact where its flag is clear. -/
theorem flagsMeanExactness : Obligations.FlagsMeanExactness := by
  intro s t l r cin
  have carry : (carryNat s.flags.c : Int) = cin := by
    simp only [carryNat, cin]
    split <;> rfl
  have exact : ∀ {k : BinaryOp}, Arithmetic k → aluOperate k.alu s = .next t →
      (t.flags.v = false ↔ t.regs.lhs.toInt = exactResult k l.toInt r.toInt cin) ∧
        (t.flags.c = false ↔ (t.regs.lhs.toNat : Int) = exactResult k l.toNat r.toNat cin) := by
    intro k arithmetic run
    have writes : k ≠ .cmp := by
      rcases arithmetic with rfl | rfl | rfl | rfl <;> decide
    obtain ⟨lhs, flags⟩ := aluOperate_binary_eq_next writes run
    rw [lhs, flags, ← carry]
    exact ⟨binaryFlags_v_exact arithmetic l r s.flags, binaryFlags_c_exact arithmetic l r s.flags⟩
  exact ⟨exact (k := .add) (.inl rfl), exact (k := .adc) (.inr (.inl rfl)), exact (k := .sub) (.inr (.inr (.inl rfl))),
    exact (k := .sbb) (.inr (.inr (.inr rfl)))⟩

end Sys2Proof.Machine
end

section
/-! PROOFS. Instructions with operands, and with several accesses to memory: an instruction is followed from place to place of
its cycle list, by cycles that compute, loads and stores, until it retires or an access ends it in ProtectedMemory. Where
`RunsUpTo` stands before the one access of an instruction, `Reaches` goes on past an access. -/

namespace Sys2Proof.Machine

open Sys2Proof

/-! ### Places in an instruction -/

/-- `u` has registers `g`, flags `f` and memory `m`, and is otherwise as `s` but for the bus, the controller, the counter and
the events. -/
structure Brought (s : State) (g : Regs) (f : Flags) (m : Memory) (u : State) : Prop where
  regs : u.regs = g
  flags : u.flags = f
  still : Undisturbed s u
  mem : u.mem = m

/-- The instruction is unconditional and costs `n` cycles, and before its cycles `cs`, the ones left, it has registers `g`,
flags `f` and memory `m`. -/
def Reaches (i : Instr) (n : Nat) (s : State) (g : Regs) (f : Flags) (m : Memory) (cs : List (Step × Option Byte)) :
    Prop :=
  (microcode i).cond = none ∧ cost (microcode i) = n ∧
    ∃ u k, exec i s = takeError (runCycles (microcode i) cs k u) ∧ Brought s g f m u

/-- The instruction retires after `n` counted cycles with registers `g`, flags `f` and memory `m`, and leaves the rest. -/
def RetiresLeaving (i : Instr) (n : Nat) (s : State) (g : Regs) (f : Flags) (m : Memory) : Prop :=
  ∃ t, Retires i n s t ∧ t.regs = g ∧ t.flags = f ∧ Undisturbed s t ∧ t.mem = m

/-- The instruction ends in ProtectedMemory with registers `g` and memory `m`, and leaves the flags and the rest. -/
def ErrsLeaving (i : Instr) (s : State) (g : Regs) (m : Memory) : Prop :=
  ∃ l, Errs i .protectedMemory s l ∧ l.regs = g ∧ Undisturbed s l ∧ l.mem = m

/-- The memory with one byte stored. -/
abbrev Memory.stored (m : Memory) (a : Word) (v : Byte) : Memory :=
  { m with cells := storeCell m.cells a.toNat v }

section
variable {i : Instr} {n : Nat} {s : State} {g g' : Regs} {f f' : Flags} {m m' : Memory} {st : Step}
  {cs rest : List (Step × Option Byte)}

theorem RunsUpTo.reaches (reached : RunsUpTo i n s g cs) : Reaches i n s g s.flags s.mem cs := by
  obtain ⟨plain, cycles, u, k, run, before⟩ := reached
  exact ⟨plain, cycles, u, k, run, before.regs, before.flags, before.still, before.mem⟩

/-- After the opcode fetch (42_controller.md R226). -/
theorem reaches_body (plain : (microcode i).cond = none) :
    Reaches i (cost (microcode i)) s (fetchedRegs i.opcode s.regs) s.flags s.mem
      (bodyCycles (microcode i) (encode i).tail) := by
  obtain ⟨t, fetch, regs, flags, still, mem⟩ := fetchOpcode_leadsTo i.opcode s
  refine ⟨plain, rfl, { t with control := .running (microcode i) 2 }, 2, ?_, regs, flags, still, mem⟩
  rw [exec_eq_runEntry, runEntry, encode_eq_opcode_cons, List.head?_cons, fetch, andThen_next, List.tail_cons, runBody]

/-- Cycles that only compute. -/
theorem Reaches.compute (reached : Reaches i n s g f m (cs ++ rest)) (chain : CyclesTake cs g f g' f') :
    Reaches i n s g' f' m rest := by
  obtain ⟨plain, cycles, u, k, run, before⟩ := reached
  obtain ⟨u', k', run', after⟩ := chain.runCycles_append plain rest k u before.regs before.flags
  exact ⟨plain, cycles, u', k', run.trans (congrArg takeError run'), after.regs, after.flags,
    before.still.trans after.still, after.mem.trans before.mem⟩

/-- An access that completes. -/
theorem Reaches.access (reached : Reaches i n s g f m ((st, none) :: rest))
    (access : ∀ u, u.regs = g → u.mem = m → AccessCompletes (cycle st false none u) u g' m') :
    Reaches i n s g' f m' rest := by
  obtain ⟨plain, cycles, u, k, run, before⟩ := reached
  obtain ⟨t, done, regs, flags, still, mem⟩ := access u before.regs before.mem
  refine ⟨plain, cycles, { t with control := .running (microcode i) (k + 1) }, k + 1, ?_, regs, flags.trans before.flags,
    before.still.trans still, mem⟩
  rw [run, runCycles_cons, suppressed_plain plain, done, andThen_next]

/-- An access that raises ends the instruction (42_controller.md R242). -/
theorem Reaches.errs (reached : Reaches i n s g s.flags m ((st, none) :: rest))
    (access : ∀ u, u.regs = g → u.mem = m → AccessProtected (cycle st false none u) u) : ErrsLeaving i s g m := by
  obtain ⟨plain, -, u, k, run, before⟩ := reached
  obtain ⟨l, raised, after⟩ := access u before.regs before.mem
  have raises : exec i s = .fault (.protectedMemory l.betweenInstructions) := by
    rw [run, runCycles_cons, suppressed_plain plain, raised, andThen_fault, takeError_fault, Fault.mapLeft]
  obtain ⟨count, -⟩ := (retireCountsAndReports i s).2 _ raises
  exact ⟨_, ⟨raises, count, after.flags.trans before.flags⟩, after.regs.trans before.regs,
    before.still.trans after.still, after.mem.trans before.mem⟩

/-- After its last cycle the instruction retires. -/
theorem Reaches.retires (reached : Reaches i n s g f m []) : RetiresLeaving i n s g f m := by
  obtain ⟨-, rfl, u, k, run, before⟩ := reached
  rw [runCycles_nil, takeError_next] at run
  obtain ⟨count, control, -⟩ := (retireCountsAndReports i s).1 _ run
  exact ⟨_, ⟨run, count, control⟩, before.regs, before.flags, before.still, before.mem⟩

theorem RetiresLeaving.retiresWith (h : RetiresLeaving i n s g f s.mem) : RetiresWith i n s g f := by
  obtain ⟨t, retires, regs, flags, still, mem⟩ := h
  exact ⟨t, retires, regs, flags, still, fun x => by rw [mem]⟩

theorem ErrsLeaving.errsProtected (h : ErrsLeaving i s g s.mem) : ErrsProtected i s g := by
  obtain ⟨l, errs, regs, still, mem⟩ := h
  exact ⟨l, errs, regs, still, fun x => by rw [mem]⟩

/-! ### What a store leaves to read -/

theorem storesByte_of_stored {t : State} {a : Word} {v : Byte} (writable : s.mem.writable a.toNat = true)
    (mem : t.mem = s.mem.stored a v) : StoresByte s t a v := by
  intro x
  rw [mem]
  exact readByte_stored s.mem v writable x

theorem storesTwoBytes_of_stored {t : State} {a a' : Word} {v v' : Byte} (writable : s.mem.writable a.toNat = true)
    (writable' : s.mem.writable a'.toNat = true) (apart : a ≠ a') (mem : t.mem = (s.mem.stored a v).stored a' v') :
    StoresTwoBytes s t a v a' v' := by
  intro x
  rw [mem]
  exact readByte_storedTwice s.mem v v' writable writable' (fun same => apart (BitVec.eq_of_toNat_eq same)) x

/-- The instruction retires with one byte stored. -/
def RetiresStoring (i : Instr) (n : Nat) (s : State) (g : Regs) (a : Word) (v : Byte) : Prop :=
  ∃ t, Retires i n s t ∧ t.regs = g ∧ t.flags = s.flags ∧ Undisturbed s t ∧ StoresByte s t a v

/-- The instruction retires with two bytes stored. -/
def RetiresStoringTwo (i : Instr) (n : Nat) (s : State) (g : Regs) (a : Word) (v : Byte) (a' : Word) (v' : Byte) : Prop :=
  ∃ t, Retires i n s t ∧ t.regs = g ∧ t.flags = s.flags ∧ Undisturbed s t ∧ StoresTwoBytes s t a v a' v'

/-- The instruction ends in ProtectedMemory with one byte stored. -/
def ErrsStoring (i : Instr) (s : State) (g : Regs) (a : Word) (v : Byte) : Prop :=
  ∃ l, Errs i .protectedMemory s l ∧ l.regs = g ∧ Undisturbed s l ∧ StoresByte s l a v

theorem RetiresLeaving.storing {a : Word} {v : Byte} (h : RetiresLeaving i n s g s.flags (s.mem.stored a v))
    (writable : s.mem.writable a.toNat = true) : RetiresStoring i n s g a v := by
  obtain ⟨t, retires, regs, flags, still, mem⟩ := h
  exact ⟨t, retires, regs, flags, still, storesByte_of_stored writable mem⟩

theorem RetiresLeaving.storingTwo {a a' : Word} {v v' : Byte}
    (h : RetiresLeaving i n s g s.flags ((s.mem.stored a v).stored a' v')) (writable : s.mem.writable a.toNat = true)
    (writable' : s.mem.writable a'.toNat = true) (apart : a ≠ a') : RetiresStoringTwo i n s g a v a' v' := by
  obtain ⟨t, retires, regs, flags, still, mem⟩ := h
  exact ⟨t, retires, regs, flags, still, storesTwoBytes_of_stored writable writable' apart mem⟩

theorem ErrsLeaving.storing {a : Word} {v : Byte} (h : ErrsLeaving i s g (s.mem.stored a v))
    (writable : s.mem.writable a.toNat = true) : ErrsStoring i s g a v := by
  obtain ⟨l, errs, regs, still, mem⟩ := h
  exact ⟨l, errs, regs, still, storesByte_of_stored writable mem⟩

/-! ### Loads -/

/-- A load into a byte register. -/
theorem Reaches.loadByte {x : ByteReg} {d : Bool} {v : Byte}
    (reached : Reaches i n s g f m ((⟨.xdata, .mem, .byte x, 0#4, d⟩, none) :: rest))
    (mapped : m.readByte g.memaddr.toNat = some v) : Reaches i n s (g.setByte x v) f m rest :=
  reached.access fun _ regs mem =>
    ⟨_, cycle_mem_byte x 0#4 d (regs ▸ mem ▸ mapped), regs ▸ rfl, rfl, ⟨rfl, rfl, rfl, rfl⟩, mem⟩

/-- A load into one half of an address register, which moves MEMADDR with INC (40_bus_transactions.md R152, R158). -/
theorem Reaches.loadHalf {y : AddrReg} {o : OpFlags} {d : Bool} {v : Byte} (cursor : y ≠ .memaddr)
    (reached : Reaches i n s g f m ((⟨.xdata, .mem, .addr y, o, d⟩, none) :: rest))
    (mapped : m.readByte g.memaddr.toNat = some v) :
    Reaches i n s ({ g with memaddr := adjust o g.memaddr }.setWord y (Machine.loadByte o (g.getWord y) v)) f m rest := by
  refine reached.access fun u regs mem =>
    ⟨_, cycle_mem_addr y o d (regs ▸ mem ▸ mapped), ?_, rfl, ⟨rfl, rfl, rfl, rfl⟩, mem⟩
  rw [Regs.getWord_setWord_other _ _ cursor, ← regs]
  rfl

/-- A load from an unmapped address ends the instruction. -/
theorem Reaches.load_errs {put : CompId} {o : OpFlags} {d : Bool}
    (reached : Reaches i n s g s.flags m ((⟨.xdata, .mem, put, o, d⟩, none) :: rest))
    (unmapped : m.readByte g.memaddr.toNat = none) : ErrsLeaving i s g m :=
  reached.errs fun _ regs mem =>
    ⟨_, cycle_mem_fault put o d (regs ▸ mem ▸ unmapped), rfl, rfl, ⟨rfl, rfl, rfl, rfl⟩, rfl⟩

/-- A word at MEMADDR, low byte first, goes to an address register; with the states of its two errors (43_data_movement.md
section 2). -/
theorem Reaches.loadWord {y : AddrReg} {d : Bool} (cursor : y ≠ .memaddr)
    (reached : Reaches i n s g s.flags s.mem
      [(⟨.xdata, .mem, .addr y, OpFlags.inc, false⟩, none), (⟨.xdata, .mem, .addr y, OpFlags.msb, d⟩, none)]) :
    (∀ lo hi, s.mem.readByte g.memaddr.toNat = some lo → s.mem.readByte (g.memaddr + 1).toNat = some hi →
      RetiresWith i n s ({ g with memaddr := g.memaddr + 1 }.setWord y (word hi lo)) s.flags) ∧
    (s.mem.readByte g.memaddr.toNat = none → ErrsProtected i s g) ∧
    (∀ lo, s.mem.readByte g.memaddr.toNat = some lo → s.mem.readByte (g.memaddr + 1).toNat = none →
      ErrsProtected i s ({ g with memaddr := g.memaddr + 1 }.setWord y (word (hi8 (g.getWord y)) lo))) := by
  have low : ∀ lo, s.mem.readByte g.memaddr.toNat = some lo →
      Reaches i n s ({ g with memaddr := g.memaddr + 1 }.setWord y (word (hi8 (g.getWord y)) lo)) s.flags s.mem _ :=
    fun lo mapped => reached.loadHalf cursor mapped
  refine ⟨fun lo hi mappedLo mappedHi => ?_, fun unmapped => (reached.load_errs unmapped).errsProtected,
    fun lo mapped unmapped => ((low lo mapped).load_errs ?_).errsProtected⟩
  · have whole := (low lo mappedLo).loadHalf cursor (by rwa [Regs.memaddr_setWord_other cursor])
    rw [adjust_msb, loadByte_msb, Regs.getWord_setWord_same, lo8_word] at whole
    have both := Regs.setWord_setWord { g with memaddr := g.memaddr + 1 } y (word (hi8 (g.getWord y)) lo) (word hi lo)
    exact RetiresLeaving.retiresWith (both ▸ whole.retires)
  · rwa [Regs.memaddr_setWord_other cursor]

/-! ### Stores -/

/-- From registers `g`, the step drives `v` and MEM latches it, with the step's flags `o` (40_bus_transactions.md R159). -/
def DrivesToMem (st : Step) (o : OpFlags) (g : Regs) (v : Byte) : Prop :=
  ∀ u : State, u.regs = g → cycle st false none u = latchMem o ((programBus st u).driveData v)

theorem drivesToMem_byte {x : ByteReg} {o : OpFlags} {d : Bool} {v : Byte} (operand : g.getByte x = v) :
    DrivesToMem ⟨.xdata, .byte x, .mem, o, d⟩ o g v := by
  subst operand
  rintro u rfl
  exact cycle_byte_mem ..

theorem drivesToMem_addr {x : AddrReg} {o : OpFlags} {d : Bool} {v : Byte} (operand : selectByte o (g.getWord x) = v) :
    DrivesToMem ⟨.xdata, .addr x, .mem, o, d⟩ o g v := by
  subst operand
  rintro u rfl
  exact cycle_addr_mem ..

section
variable {o : OpFlags} {v : Byte} (drives : DrivesToMem st o g v)
include drives

/-- A store at a writable address. -/
theorem Reaches.store (reached : Reaches i n s g f m ((st, none) :: rest))
    (writable : m.writable g.memaddr.toNat = true) :
    Reaches i n s { g with memaddr := adjust o g.memaddr } f (m.stored g.memaddr v) rest := by
  refine reached.access fun u regs mem => ?_
  subst regs mem
  rw [drives u rfl]
  exact ⟨_, latchMem_some (s := (programBus st u).driveData v) writable, rfl, rfl, ⟨rfl, rfl, rfl, rfl⟩, rfl⟩

/-- A store at an unmapped or read-only address ends the instruction. -/
theorem Reaches.store_errs (reached : Reaches i n s g s.flags m ((st, none) :: rest))
    (readOnly : m.writable g.memaddr.toNat = false) : ErrsLeaving i s g m := by
  refine reached.errs fun u regs mem => ?_
  subst regs mem
  rw [drives u rfl]
  exact ⟨_, latchMem_fault readOnly, rfl, rfl, ⟨rfl, rfl, rfl, rfl⟩, rfl⟩

end

theorem ne_add_one (a : Word) : a ≠ a + 1 := by
  bv_omega

/-- The word of an address register is stored at MEMADDR, low byte first; with the states of its two errors
(43_data_movement.md section 2). -/
theorem Reaches.storeWord {x : AddrReg} {d : Bool} (cursor : x ≠ .memaddr)
    (reached : Reaches i n s g s.flags s.mem
      [(⟨.xdata, .addr x, .mem, OpFlags.inc, false⟩, none), (⟨.xdata, .addr x, .mem, OpFlags.msb, d⟩, none)]) :
    (s.mem.writable g.memaddr.toNat = true → s.mem.writable (g.memaddr + 1).toNat = true →
      RetiresStoringTwo i n s { g with memaddr := g.memaddr + 1 } g.memaddr (lo8 (g.getWord x)) (g.memaddr + 1)
        (hi8 (g.getWord x))) ∧
    (s.mem.writable g.memaddr.toNat = false → ErrsProtected i s g) ∧
    (s.mem.writable g.memaddr.toNat = true → s.mem.writable (g.memaddr + 1).toNat = false →
      ErrsStoring i s { g with memaddr := g.memaddr + 1 } g.memaddr (lo8 (g.getWord x))) := by
  have first : DrivesToMem ⟨.xdata, .addr x, .mem, OpFlags.inc, false⟩ OpFlags.inc g (lo8 (g.getWord x)) :=
    drivesToMem_addr rfl
  have second : DrivesToMem ⟨.xdata, .addr x, .mem, OpFlags.msb, d⟩ OpFlags.msb { g with memaddr := g.memaddr + 1 }
      (hi8 (g.getWord x)) :=
    drivesToMem_addr (congrArg hi8 (Regs.getWord_setWord_other g (r := .memaddr) _ cursor))
  have low := fun writable => reached.store first writable
  exact ⟨fun writable writable' => ((low writable).store second writable').retires.storingTwo writable writable'
      (ne_add_one _),
    fun readOnly => (reached.store_errs first readOnly).errsProtected,
    fun writable readOnly => ((low writable).store_errs second readOnly).storing writable⟩

end

/-! ### Operands -/

/-- The register is none of those that the operand fetch uses for itself: PC, TX and MEMADDR. -/
structure FetchFree (r : AddrReg) : Prop where
  pc : r ≠ .pc
  tx : r ≠ .tx
  cursor : r ≠ .memaddr

theorem WReg_fetchFree (w : WReg) : FetchFree w.reg := by
  cases w <;> exact ⟨by decide, by decide, by decide⟩

theorem BaseReg_fetchFree (b : BaseReg) : FetchFree b.reg := by
  cases b <;> exact ⟨by decide, by decide, by decide⟩

theorem IndexReg_fetchFree (w : IndexReg) : FetchFree w.reg := by
  cases w <;> exact ⟨by decide, by decide, by decide⟩

section
variable {r : AddrReg} (g : Regs)

theorem FetchFree.setWord_fetchedFor (free : FetchFree r) (i : Instr) (m w : Word) :
    (fetchedFor i m g).setWord r w = fetchedFor i m (g.setWord r w) := by
  obtain ⟨pc, -, cursor⟩ := free
  cases r with
  | pc | memaddr => contradiction
  | sp | bp | si | di | tx => rfl

theorem FetchFree.getWord_fetchedFor (free : FetchFree r) (i : Instr) (m : Word) :
    (fetchedFor i m g).getWord r = g.getWord r := by
  obtain ⟨pc, -, cursor⟩ := free
  cases r with
  | pc | memaddr => contradiction
  | sp | bp | si | di | tx => rfl

theorem FetchFree.getWord_with_tx (free : FetchFree r) (w : Word) : ({ g with tx := w } : Regs).getWord r = g.getWord r :=
  Regs.getWord_setWord_other g (r := .tx) w free.tx

end

section
variable {g : Regs} {f : Flags} {b : Option Byte}

theorem cycleTakes_idle : CycleTakes (.other, b) g f g f := by
  rintro s rfl rfl
  exact ⟨_, cycle_idle .., rfl, rfl, ⟨rfl, rfl, rfl, rfl⟩, rfl⟩

/-- The last step of an entry, which carries the Done bit, copies a word as any other does. -/
theorem cycleTakes_addr_addr_fin (x y : AddrReg) :
    CycleTakes ((Step.xaddr (.addr x) (.addr y)).fin, b) g f (g.setWord y (g.getWord x)) f := by
  rintro s rfl rfl
  refine ⟨_, cycle_xaddr x y 0#4 true b s, ?_, rfl, ⟨rfl, rfl, rfl, rfl⟩, rfl⟩
  exact congrArg (Regs.setWord · y _) (Regs.setWord_getWord ..)

theorem cycleTakes_stream_byte (x : ByteReg) (v : Byte) :
    CycleTakes (.xdata .mem (.byte x), some v) g f (g.setByte x v) f := by
  rintro s rfl rfl
  exact ⟨_, cycle_stream_byte .., rfl, rfl, ⟨rfl, rfl, rfl, rfl⟩, rfl⟩

/-- The displacement in the low half of TX is added to the base in MEMADDR (42_controller.md R232). -/
theorem cycleTakes_index :
    CycleTakes (.xdata (.addr .tx) (.addr .memaddr) OpFlags.idx, b) g f
      { g with memaddr := indexedAddress g.memaddr (lo8 g.tx) } f := by
  rintro s rfl rfl
  exact ⟨_, cycle_addr_addr .., rfl, rfl, ⟨rfl, rfl, rfl, rfl⟩, rfl⟩

/-- The fetch of a word operand into any register but the cursor, PC among them, low byte first (42_controller.md R229,
R234). -/
theorem cyclesTake_fetchWord {r : AddrReg} (cursor : r ≠ .memaddr) (w : Word) :
    CyclesTake (supply (fetchWord (.addr r) false) [lo8 w, hi8 w]) g f
      ({ g with pc := g.pc + 1 + 1, memaddr := g.pc + 1 + 1 }.setWord r w) f := by
  have whole : CyclesTake (supply (fetchWord (.addr r) false) [lo8 w, hi8 w]) g f
      ({ g with pc := g.pc + 1 + 1, memaddr := g.pc + 1 + 1 }.setWord r
        (word (hi8 w) (lo8 (word (hi8 (g.getWord r)) (lo8 w))))) f := by
    cases r with
    | memaddr => contradiction
    | pc =>
      exact .cons (cycleTakes_addr_addr .pc .memaddr) (.cons (cycleTakes_stream_half cursor false (lo8 w))
        (.cons (cycleTakes_stream_half cursor true (hi8 w)) (.cons cycleTakes_idle (.nil ..))))
    | sp | bp | si | di | tx =>
      exact .cons (cycleTakes_addr_addr .pc .memaddr) (.cons (cycleTakes_stream_half cursor false (lo8 w))
        (.cons (cycleTakes_stream_half cursor true (hi8 w)) (.cons (cycleTakes_addr_addr .memaddr .pc) (.nil ..))))
  rwa [lo8_word, word_hi_lo] at whole

end

/-! ### Up to the steps -/

section
variable {i : Instr} {n : Nat} {steps : List Step} {s : State}

/-- With no operand, the steps start right after the opcode fetch (42_controller.md R226). -/
theorem EncodedAs.reaches_implied {subject : Option CompId} (encoded : EncodedAs i n .implied subject none steps) :
    Reaches i (2 + steps.length) s (fetchedFor i s.regs.pc s.regs) s.flags s.mem (steps.map fun st => (st, none)) :=
  (encoded.runsUpTo_implied (pre := []) (.nil ..)).reaches

/-- The registers past an instruction with one operand byte. -/
theorem fetchedRegs_past_byte (length : (encode i).length = 2) (m : Word) (g : Regs) :
    { fetchedRegs i.opcode g with pc := g.pc + 1 + 1, memaddr := m } = fetchedFor i m g := by
  rw [fetchedFor, length, BitVec.add_assoc]
  rfl

/-- The registers past an instruction with a word operand. -/
theorem fetchedRegs_past_word (length : (encode i).length = 3) (m : Word) (g : Regs) :
    { fetchedRegs i.opcode g with pc := g.pc + 1 + 1 + 1, memaddr := m } = fetchedFor i m g := by
  rw [fetchedFor, length, BitVec.add_assoc, BitVec.add_assoc]
  rfl

/-- An immediate byte goes to a general register (42_controller.md R228). -/
theorem EncodedAs.reaches_immediateByte {x : GReg} {v : Byte}
    (encoded : EncodedAs i n .immediateByte (some (.byte x.reg)) none steps) (operand : (encode i).tail = [v]) :
    Reaches i (4 + steps.length) s (fetchedFor i (s.regs.pc + 1) (s.regs.setByte x.reg v)) s.flags s.mem
      (steps.map fun st => (st, none)) := by
  obtain ⟨-, length, mode, subject, cond, steps_eq, -⟩ := encoded
  have start := reaches_body (s := s) cond
  have body : bodyCycles (microcode i) [v] =
      [(byteAddress, none), (.xdata .mem (.byte x.reg), some v)] ++ steps.map fun st => (st, none) := by
    simp only [bodyCycles, fetchOperands, mode, subject, steps_eq, supply, Option.getD_some]
  have cycles : cost (microcode i) = 4 + steps.length := by
    rw [cost, mode, steps_eq]
    rfl
  rw [cycles, operand, body] at start
  have fetched := start.compute (.cons cycleTakes_stream_address (.cons (cycleTakes_stream_byte x.reg v) (.nil ..)))
  rw [← setByte_fetchedFor, ← fetchedRegs_past_byte length]
  exact fetched

/-- The cycles of a word operand. -/
theorem EncodedAs.reaches_word {mode : Mode} {subject : Option CompId} {r : AddrReg} {w : Word} {c : Nat}
    {rest : List (Step × Option Byte)} (encoded : EncodedAs i n mode subject none steps)
    (operand : (encode i).tail = [lo8 w, hi8 w]) (two : operandBytes mode = 2) (cycles : cost (microcode i) = c)
    (cursor : r ≠ .memaddr)
    (body : bodyCycles (microcode i) [lo8 w, hi8 w] = supply (fetchWord (.addr r) false) [lo8 w, hi8 w] ++ rest) :
    Reaches i c s ((fetchedFor i (s.regs.pc + 3) s.regs).setWord r w) s.flags s.mem rest := by
  obtain ⟨-, length, -, -, cond, -, -⟩ := encoded
  have start := reaches_body (s := s) cond
  rw [cycles, operand, body] at start
  rw [two] at length
  have fetched := start.compute (cyclesTake_fetchWord cursor w)
  have past : s.regs.pc + 3 = s.regs.pc + 1 + 1 + 1 := by
    rw [BitVec.add_assoc, BitVec.add_assoc]
    rfl
  rw [← fetchedRegs_past_word length, past]
  exact fetched

/-- An immediate word goes to an address register, PC among them (42_controller.md R229, R234). -/
theorem EncodedAs.reaches_immediateWord {r : AddrReg} {w : Word} (cursor : r ≠ .memaddr)
    (encoded : EncodedAs i n .immediateWord (some (.addr r)) none steps) (operand : (encode i).tail = [lo8 w, hi8 w]) :
    Reaches i (6 + steps.length) s ((fetchedFor i (s.regs.pc + 3) s.regs).setWord r w) s.flags s.mem
      (steps.map fun st => (st, none)) := by
  obtain ⟨-, length, mode, subject, cond, steps_eq, msbFirst⟩ := id encoded
  refine encoded.reaches_word operand rfl ?_ cursor ?_
  · rw [cost, mode, steps_eq]
    rfl
  · simp only [bodyCycles, fetchOperands, mode, subject, steps_eq, msbFirst, Option.getD_some]

/-- The address operand goes from TX to MEMADDR. -/
theorem Reaches.address_to_cursor {a : Word} {rest : List (Step × Option Byte)}
    (reached : Reaches i n s ((fetchedFor i (s.regs.pc + 3) s.regs).setWord .tx a) s.flags s.mem
      ((.xaddr (.addr .tx) (.addr .memaddr), none) :: rest)) :
    Reaches i n s (fetchedFor i a { s.regs with tx := a }) s.flags s.mem rest :=
  reached.compute (cs := [_]) (.cons (cycleTakes_addr_addr .tx .memaddr) (.nil ..))

/-- An address operand goes to TX and MEMADDR, for the load of a byte (42_controller.md R230). -/
theorem EncodedAs.reaches_indirectByte {put : CompId} {a : Word}
    (encoded : EncodedAs i n .indirectByte (some put) none steps) (operand : (encode i).tail = [lo8 a, hi8 a]) :
    Reaches i (8 + steps.length) s (fetchedFor i a { s.regs with tx := a }) s.flags s.mem
      ((.xdata .mem put, none) :: steps.map fun st => (st, none)) := by
  obtain ⟨-, length, mode, subject, cond, steps_eq, msbFirst⟩ := id encoded
  refine (encoded.reaches_word (r := .tx) operand rfl ?_ (by decide) ?_).address_to_cursor
  · rw [cost, mode, steps_eq]
    rfl
  · simp only [bodyCycles, fetchOperands, mode, subject, steps_eq, msbFirst, Option.getD_some]
    rfl

/-- An address operand goes to TX and MEMADDR, for the load of a word (42_controller.md R231). -/
theorem EncodedAs.reaches_indirectWord {put : CompId} {a : Word}
    (encoded : EncodedAs i n .indirectWord (some put) none steps) (operand : (encode i).tail = [lo8 a, hi8 a]) :
    Reaches i (9 + steps.length) s (fetchedFor i a { s.regs with tx := a }) s.flags s.mem
      ((.xdata .mem put OpFlags.inc, none) :: (.xdata .mem put OpFlags.msb, none) :: steps.map fun st => (st, none)) := by
  obtain ⟨-, length, mode, subject, cond, steps_eq, msbFirst⟩ := id encoded
  refine (encoded.reaches_word (r := .tx) operand rfl ?_ (by decide) ?_).address_to_cursor
  · rw [cost, mode, steps_eq]
    rfl
  · simp only [bodyCycles, fetchOperands, mode, subject, steps_eq, msbFirst, Option.getD_some]
    rfl

/-- The displacement goes to the low half of TX, and its sum with the base to MEMADDR (42_controller.md R232, R233). -/
theorem EncodedAs.reaches_indexed {m : Mode} {r : AddrReg} {d : Byte} (indexed : m = .indexedByte ∨ m = .indexedWord)
    (free : FetchFree r) (encoded : EncodedAs i n m (some (.addr r)) none steps) (operand : (encode i).tail = [d]) :
    Reaches i (6 + steps.length) s
      (fetchedFor i (indexedAddress (s.regs.getWord r) d) { s.regs with tx := word (hi8 s.regs.tx) d }) s.flags s.mem
      (steps.map fun st => (st, none)) := by
  obtain ⟨-, length, mode, subject, cond, steps_eq, -⟩ := encoded
  have start := reaches_body (s := s) cond
  have body : bodyCycles (microcode i) [d] =
      [(byteAddress, none), (.xdata .mem (.addr .tx), some d), (.xaddr (.addr r) (.addr .memaddr), none),
        (.xdata (.addr .tx) (.addr .memaddr) OpFlags.idx, none)] ++ steps.map fun st => (st, none) := by
    rcases indexed with rfl | rfl <;>
      simp only [bodyCycles, fetchOperands, mode, subject, steps_eq, supply, Option.getD_some]
  have cycles : cost (microcode i) = 6 + steps.length := by
    rcases indexed with rfl | rfl <;> rw [cost, mode, steps_eq] <;> rfl
  have two : (encode i).length = 2 := by
    rcases indexed with rfl | rfl <;> exact length
  rw [cycles, operand, body] at start
  have past := fetchedRegs_past_byte two (s.regs.pc + 1) { s.regs with tx := word (hi8 s.regs.tx) d }
  have fetched : Reaches i (6 + steps.length) s
      (fetchedFor i (s.regs.pc + 1) { s.regs with tx := word (hi8 s.regs.tx) d }) s.flags s.mem _ :=
    past ▸ start.compute (cs := [_, _]) (.cons cycleTakes_stream_address (.cons (cycleTakes_stream_tx d) (.nil ..)))
  have based := fetched.compute (cs := [_, _])
    (.cons (cycleTakes_addr_addr r .memaddr) (.cons cycleTakes_index (.nil ..)))
  have address : ({ fetchedFor i (s.regs.pc + 1) { s.regs with tx := word (hi8 s.regs.tx) d } with
      memaddr := indexedAddress ((fetchedFor i (s.regs.pc + 1) { s.regs with tx := word (hi8 s.regs.tx) d }).getWord r)
        (lo8 (word (hi8 s.regs.tx) d)) } : Regs) =
      fetchedFor i (indexedAddress (s.regs.getWord r) d) { s.regs with tx := word (hi8 s.regs.tx) d } := by
    rw [free.getWord_fetchedFor, free.getWord_with_tx, lo8_word]
    rfl
  exact address ▸ based

end

end Sys2Proof.Machine
end

section
/-! PROOFS. Data movement (43_data_movement.md): each form's entry and operand, and its way through the cycles. -/

namespace Sys2Proof.Machine

open Sys2Proof

/-! ### The entries -/

theorem microcode_movImm8 (r : GReg) (v : Byte) : ∃ name, microcode (.movImm8 r v) = loadImm8 name r.reg := by
  cases r <;> exact ⟨_, rfl⟩

theorem microcode_movImm16 (w : WReg) (x : Word) : ∃ name, microcode (.movImm16 w x) = loadImm16 name w.reg := by
  cases w <;> exact ⟨_, rfl⟩

theorem microcode_movCopy8 {rd rs : GReg} {i : Instr} (copy : Instr.movCopy8 rd rs = some i) :
    ∃ name, microcode i = copy8 name rd.reg rs.reg := by
  cases rd <;> cases rs <;> cases copy <;> exact ⟨_, rfl⟩

theorem microcode_movCopy16 {wd ws : WReg} {i : Instr} (copy : Instr.movCopy16 wd ws = some i) :
    ∃ name, microcode i = copy16 name wd.reg ws.reg := by
  cases wd <;> cases ws <;> cases copy <;> exact ⟨_, rfl⟩

theorem microcode_movLoad8 (r : GReg) (a : Word) : ∃ name, microcode (.movLoad8 r a) = loadAbs8 name r.reg := by
  cases r <;> exact ⟨_, rfl⟩

theorem microcode_movStore8 (r : GReg) (a : Word) : ∃ name, microcode (.movStore8 r a) = storeAbs8 name r.reg := by
  cases r <;> exact ⟨_, rfl⟩

theorem microcode_movLoad16 (w : WReg) (a : Word) : ∃ name, microcode (.movLoad16 w a) = loadAbs16 name w.reg := by
  cases w <;> exact ⟨_, rfl⟩

theorem microcode_movStore16 (w : WReg) (a : Word) : ∃ name, microcode (.movStore16 w a) = storeAbs16 name w.reg := by
  cases w <;> exact ⟨_, rfl⟩

theorem microcode_movLoadIdx8 (r : GReg) (b : BaseReg) (d : Byte) :
    ∃ name, microcode (.movLoadIdx8 r b d) = loadIdx8 name r.reg b.reg := by
  cases r <;> cases b <;> exact ⟨_, rfl⟩

theorem microcode_movStoreIdx8 (b : BaseReg) (r : GReg) (d : Byte) :
    ∃ name, microcode (.movStoreIdx8 b r d) = storeIdx8 name b.reg r.reg := by
  cases b <;> cases r <;> exact ⟨_, rfl⟩

theorem microcode_movLoadIdx16 (w : IndexReg) (d : Byte) :
    ∃ name, microcode (.movLoadIdx16 w d) = loadIdx16 name w.reg := by
  cases w <;> exact ⟨_, rfl⟩

theorem microcode_movStoreIdx16 (w : IndexReg) (d : Byte) :
    ∃ name, microcode (.movStoreIdx16 w d) = storeIdx16 name w.reg := by
  cases w <;> exact ⟨_, rfl⟩

/-! ### The operands -/

theorem encode_movImm8_tail (r : GReg) (v : Byte) : (encode (.movImm8 r v)).tail = [v] := by
  cases r <;> rfl

theorem encode_movImm16_tail (w : WReg) (x : Word) : (encode (.movImm16 w x)).tail = [lo8 x, hi8 x] := by
  cases w <;> rfl

theorem encode_movLoad8_tail (r : GReg) (a : Word) : (encode (.movLoad8 r a)).tail = [lo8 a, hi8 a] := by
  cases r <;> rfl

theorem encode_movStore8_tail (r : GReg) (a : Word) : (encode (.movStore8 r a)).tail = [lo8 a, hi8 a] := by
  cases r <;> rfl

theorem encode_movLoad16_tail (w : WReg) (a : Word) : (encode (.movLoad16 w a)).tail = [lo8 a, hi8 a] := by
  cases w <;> rfl

theorem encode_movStore16_tail (w : WReg) (a : Word) : (encode (.movStore16 w a)).tail = [lo8 a, hi8 a] := by
  cases w <;> rfl

theorem encode_movLoadIdx8_tail (r : GReg) (b : BaseReg) (d : Byte) : (encode (.movLoadIdx8 r b d)).tail = [d] := by
  cases r <;> cases b <;> rfl

theorem encode_movStoreIdx8_tail (b : BaseReg) (r : GReg) (d : Byte) : (encode (.movStoreIdx8 b r d)).tail = [d] := by
  cases b <;> cases r <;> rfl

theorem encode_movLoadIdx16_tail (w : IndexReg) (d : Byte) : (encode (.movLoadIdx16 w d)).tail = [d] := by
  cases w <;> rfl

theorem encode_movStoreIdx16_tail (w : IndexReg) (d : Byte) : (encode (.movStoreIdx16 w d)).tail = [d] := by
  cases w <;> rfl

/-! ### The address -/

/-- The indexed address is the base plus the signed displacement modulo 2^16 (30_encoding.md R93). -/
theorem indexedAddress_eq_ofInt (base : Word) (d : Byte) :
    indexedAddress base d = BitVec.ofInt 16 (base.toNat + d.toInt) := by
  rw [indexedAddress, sext16, BitVec.ofInt_add, BitVec.signExtend, BitVec.ofInt_natCast, BitVec.ofNat_toNat,
    BitVec.setWidth_eq]

/-- An index register is fetched past, and is apart from TX. -/
theorem getWord_fetchedFor_with_tx {r : AddrReg} (free : FetchFree r) (i : Instr) (m w : Word) (g : Regs) :
    (fetchedFor i m { g with tx := w }).getWord r = g.getWord r := by
  rw [free.getWord_fetchedFor, free.getWord_with_tx]

theorem getByte_fetchedFor_with_tx (x : GReg) (i : Instr) (m w : Word) (g : Regs) :
    (fetchedFor i m { g with tx := w }).getByte x.reg = g.getByte x.reg := by
  rw [getByte_fetchedFor, getByte_with_tx]

end Sys2Proof.Machine

/-! ### The instructions -/

namespace Sys2Proof.DataMovement

open Sys2Proof Sys2Proof.Machine

/-- Settles O31: the operand is fetched into the register itself, and no step follows. -/
theorem movImmediate : Obligations.MovImmediate := by
  refine ⟨fun r v s => ?byte, fun w x s => ?word⟩
  case byte =>
    obtain ⟨name, entry⟩ := microcode_movImm8 r v
    have encoded := encodedAs_of_entry (Instr.toNat_opcode_movImm8 r v) entry
    exact (encoded.reaches_immediateByte (encode_movImm8_tail r v)).retires.retiresWith
  case word =>
    obtain ⟨name, entry⟩ := microcode_movImm16 w x
    have free := WReg_fetchFree w
    have encoded := encodedAs_of_entry (Instr.toNat_opcode_movImm16 w x) entry
    have reached := encoded.reaches_immediateWord (s := s) free.cursor (encode_movImm16_tail w x)
    rw [free.setWord_fetchedFor] at reached
    exact reached.retires.retiresWith

/-- Settles O32: the one step copies the register. -/
theorem movCopy : Obligations.MovCopy := by
  refine ⟨fun rd rs i s copy => ?byte, fun wd ws i s copy => ?word⟩
  case byte =>
    obtain ⟨name, entry⟩ := microcode_movCopy8 copy
    have encoded := encodedAs_of_entry (Instr.toNat_opcode_movCopy8 rd rs i copy) entry
    refine encoded.retires_implied ?_
    rw [← getByte_fetchedFor rs s.regs i s.regs.pc, ← setByte_fetchedFor]
    exact .cons (cycleTakes_byte_byte rs.reg rd.reg) (.nil ..)
  case word =>
    obtain ⟨name, entry⟩ := microcode_movCopy16 copy
    have encoded := encodedAs_of_entry (Instr.toNat_opcode_movCopy16 wd ws i copy) entry
    refine encoded.retires_implied ?_
    rw [← (WReg_fetchFree ws).getWord_fetchedFor s.regs i s.regs.pc, ← (WReg_fetchFree wd).setWord_fetchedFor]
    exact .cons (cycleTakes_addr_addr_fin ws.reg wd.reg) (.nil ..)

/-- Settles O33: the address goes through TX to MEMADDR, then the load decides. -/
theorem movLoadByte : Obligations.MovLoadByte := by
  intro r a s
  obtain ⟨name, entry⟩ := microcode_movLoad8 r a
  have encoded := encodedAs_of_entry (Instr.toNat_opcode_movLoad8 r a) entry
  have reached := encoded.reaches_indirectByte (s := s) (encode_movLoad8_tail r a)
  refine ⟨fun v mapped => ?_, fun unmapped => (reached.load_errs unmapped).errsProtected⟩
  rw [← setByte_fetchedFor]
  exact (reached.loadByte mapped).retires.retiresWith

/-- Settles O34: the address goes through TX to MEMADDR, then the store decides. -/
theorem movStoreByte : Obligations.MovStoreByte := by
  intro r a s
  obtain ⟨name, entry⟩ := microcode_movStore8 r a
  have encoded := encodedAs_of_entry (Instr.toNat_opcode_movStore8 r a) entry
  have reached := (encoded.reaches_immediateWord (s := s) (by decide) (encode_movStore8_tail r a)).address_to_cursor
  have drives := drivesToMem_byte (d := true) (o := 0#4) (getByte_fetchedFor_with_tx r (.movStore8 r a) a a s.regs)
  exact ⟨fun writable => (reached.store drives writable).retires.storing writable,
    fun readOnly => (reached.store_errs drives readOnly).errsProtected⟩

/-- Settles O35: the address goes through TX to MEMADDR, then the word is loaded from there. -/
theorem movLoadWord : Obligations.MovLoadWord := by
  intro w a s
  obtain ⟨name, entry⟩ := microcode_movLoad16 w a
  have free := WReg_fetchFree w
  have encoded := encodedAs_of_entry (Instr.toNat_opcode_movLoad16 w a) entry
  have loads := (encoded.reaches_indirectWord (s := s) (encode_movLoad16_tail w a)).loadWord free.cursor
  rw [getWord_fetchedFor_with_tx free] at loads
  simp only [← free.setWord_fetchedFor]
  exact loads

/-- Settles O36: the address goes through TX to MEMADDR, then the word is stored there. -/
theorem movStoreWord : Obligations.MovStoreWord := by
  intro w a s
  obtain ⟨name, entry⟩ := microcode_movStore16 w a
  have free := WReg_fetchFree w
  have encoded := encodedAs_of_entry (Instr.toNat_opcode_movStore16 w a) entry
  have stores := (encoded.reaches_immediateWord (s := s) (by decide)
    (encode_movStore16_tail w a)).address_to_cursor.storeWord free.cursor
  rw [getWord_fetchedFor_with_tx free] at stores
  exact stores

/-- Settles O37: MEMADDR holds the sum, then the load decides. -/
theorem movLoadIndexedByte : Obligations.MovLoadIndexedByte := by
  intro r b d s ea g
  obtain ⟨name, entry⟩ := microcode_movLoadIdx8 r b d
  have encoded := encodedAs_of_entry (Instr.toNat_opcode_movLoadIdx8 r b d) entry
  have reached := encoded.reaches_indexed (s := s) (.inl rfl) (BaseReg_fetchFree b) (encode_movLoadIdx8_tail r b d)
  rw [indexedAddress_eq_ofInt] at reached
  refine ⟨fun v mapped => ?_, fun unmapped => (reached.load_errs unmapped).errsProtected⟩
  rw [← setByte_fetchedFor]
  exact (reached.loadByte mapped).retires.retiresWith

/-- Settles O38: MEMADDR holds the sum, then the store decides. -/
theorem movStoreIndexedByte : Obligations.MovStoreIndexedByte := by
  intro b r d s ea g
  obtain ⟨name, entry⟩ := microcode_movStoreIdx8 b r d
  have encoded := encodedAs_of_entry (Instr.toNat_opcode_movStoreIdx8 b r d) entry
  have reached := encoded.reaches_indexed (s := s) (.inl rfl) (BaseReg_fetchFree b) (encode_movStoreIdx8_tail b r d)
  rw [indexedAddress_eq_ofInt] at reached
  have drives := drivesToMem_byte (d := true) (o := 0#4)
    ((getByte_fetchedFor r g (.movStoreIdx8 b r d) ea).trans (getByte_with_tx ..))
  exact ⟨fun writable => (reached.store drives writable).retires.storing writable,
    fun readOnly => (reached.store_errs drives readOnly).errsProtected⟩

/-- Settles O39: MEMADDR holds the sum, then the word is loaded from there. -/
theorem movLoadIndexedWord : Obligations.MovLoadIndexedWord := by
  intro w d s ea g
  obtain ⟨name, entry⟩ := microcode_movLoadIdx16 w d
  have free := IndexReg_fetchFree w
  have encoded := encodedAs_of_entry (Instr.toNat_opcode_movLoadIdx16 w d) entry
  have loads := (encoded.reaches_indexed (s := s) (.inr rfl) (BaseReg_fetchFree .bp)
    (encode_movLoadIdx16_tail w d)).loadWord free.cursor
  rw [indexedAddress_eq_ofInt, getWord_fetchedFor_with_tx free] at loads
  simp only [← free.setWord_fetchedFor]
  exact loads

/-- Settles O40: MEMADDR holds the sum, then the word is stored there. -/
theorem movStoreIndexedWord : Obligations.MovStoreIndexedWord := by
  intro w d s ea g
  obtain ⟨name, entry⟩ := microcode_movStoreIdx16 w d
  have free := IndexReg_fetchFree w
  have encoded := encodedAs_of_entry (Instr.toNat_opcode_movStoreIdx16 w d) entry
  have stores := (encoded.reaches_indexed (s := s) (.inr rfl) (BaseReg_fetchFree .bp)
    (encode_movStoreIdx16_tail w d)).storeWord free.cursor
  rw [indexedAddress_eq_ofInt, getWord_fetchedFor_with_tx free] at stores
  exact stores

end Sys2Proof.DataMovement
end

section
/-! PROOFS. The word instructions of the stack, POPF, and what a pop gives back after a push (45_stack.md sections 2 to 4); JMP,
CALL and RET (46_control_flow.md sections 1 and 3). -/

namespace Sys2Proof.Machine

open Sys2Proof

/-! ### The entries -/

theorem microcode_push16 (w : BaseReg) : ∃ name, microcode (.push16 w) = push16 name w.reg := by
  cases w <;> exact ⟨_, rfl⟩

theorem microcode_pop16 (w : BaseReg) : ∃ name, microcode (.pop16 w) = pop16 name w.reg := by
  cases w <;> exact ⟨_, rfl⟩

/-! ### Words on the stack -/

/-- The register is neither SP nor the cursor, the two that the stack moves. -/
structure StackFree (r : AddrReg) : Prop where
  sp : r ≠ .sp
  cursor : r ≠ .memaddr

theorem BaseReg_stackFree (b : BaseReg) : StackFree b.reg := by
  cases b <;> exact ⟨by decide, by decide⟩

theorem pc_stackFree : StackFree .pc := ⟨by decide, by decide⟩

/-- The registers with SP and MEMADDR moved. -/
abbrev Regs.moved (g : Regs) (sp memaddr : Word) : Regs := { g with sp := sp, memaddr := memaddr }

section
variable {r : AddrReg} (g : Regs) (a b : Word)

theorem StackFree.getWord_moved (free : StackFree r) : (g.moved a b).getWord r = g.getWord r := by
  obtain ⟨sp, cursor⟩ := free
  cases r with
  | sp | memaddr => contradiction
  | pc | bp | si | di | tx => rfl

theorem StackFree.moved_setWord (free : StackFree r) (w : Word) :
    (g.setWord r w).moved a b = (g.moved a b).setWord r w := by
  obtain ⟨sp, cursor⟩ := free
  cases r with
  | sp | memaddr => contradiction
  | pc | bp | si | di | tx => rfl

theorem StackFree.sp_setWord (free : StackFree r) (w : Word) : (g.setWord r w).sp = g.sp :=
  Regs.getWord_setWord_other g (r' := .sp) w free.sp.symm

end

theorem sub_one_sub_one (a : Word) : a - 1 - 1 = a - 2 := by
  bv_omega

theorem add_one_add_one (a : Word) : a + 1 + 1 = a + 2 := by
  bv_omega

theorem sub_one_ne_sub_two (a : Word) : a - 1 ≠ a - 2 := by
  bv_omega

theorem sub_two_add_one (a : Word) : a - 2 + 1 = a - 1 := by
  bv_omega

theorem sub_two_add_two (a : Word) : a - 2 + 2 = a := by
  bv_omega

section
variable {i : Instr} {n : Nat} {s : State} {g : Regs} {f : Flags} {m : Memory} {rest : List (Step × Option Byte)}

/-- SP moves down before a push. -/
theorem Reaches.sp_down
    (reached : Reaches i n s g f m ((.xaddr (.addr .sp) (.addr .memaddr) OpFlags.dec, none) :: rest)) :
    Reaches i n s (g.moved (g.sp - 1) (g.sp - 1)) f m rest :=
  reached.compute (cs := [_]) (.cons cycleTakes_sp_dec (.nil ..))

/-- SP moves up before the load of a pop, whose address is the old SP. -/
theorem Reaches.sp_up
    (reached : Reaches i n s g f m ((.xaddr (.addr .sp) (.addr .memaddr) OpFlags.inc, none) :: rest)) :
    Reaches i n s (g.moved (g.sp + 1) g.sp) f m rest :=
  reached.compute (cs := [_]) (.cons cycleTakes_sp_inc (.nil ..))

/-- A word is pushed, high byte first; with the states of its two errors (45_stack.md section 3). -/
theorem Reaches.pushWord {x : AddrReg} {d : Bool} (free : StackFree x)
    (reached : Reaches i n s g s.flags s.mem
      ((.xaddr (.addr .sp) (.addr .memaddr) OpFlags.dec, none) :: (.xdata (.addr x) .mem OpFlags.msb, none) ::
        (.xaddr (.addr .sp) (.addr .memaddr) OpFlags.dec, none) :: (⟨.xdata, .addr x, .mem, 0#4, d⟩, none) :: rest)) :
    (s.mem.writable (g.sp - 1).toNat = true → s.mem.writable (g.sp - 2).toNat = true →
      Reaches i n s (g.moved (g.sp - 2) (g.sp - 2)) s.flags
        ((s.mem.stored (g.sp - 1) (hi8 (g.getWord x))).stored (g.sp - 2) (lo8 (g.getWord x))) rest) ∧
    (s.mem.writable (g.sp - 1).toNat = false → ErrsProtected i s (g.moved (g.sp - 1) (g.sp - 1))) ∧
    (s.mem.writable (g.sp - 1).toNat = true → s.mem.writable (g.sp - 2).toNat = false →
      ErrsStoring i s (g.moved (g.sp - 2) (g.sp - 2)) (g.sp - 1) (hi8 (g.getWord x))) := by
  have high : DrivesToMem (.xdata (.addr x) .mem OpFlags.msb) OpFlags.msb (g.moved (g.sp - 1) (g.sp - 1))
      (hi8 (g.getWord x)) := drivesToMem_addr (congrArg hi8 (free.getWord_moved ..))
  have low : DrivesToMem ⟨.xdata, .addr x, .mem, 0#4, d⟩ 0#4 (g.moved (g.sp - 2) (g.sp - 2)) (lo8 (g.getWord x)) :=
    drivesToMem_addr (congrArg lo8 (free.getWord_moved ..))
  have second := fun writable => ((reached.sp_down).store high writable).sp_down
  simp only [sub_one_sub_one] at second
  exact ⟨fun writable writable' => (second writable).store low writable',
    fun readOnly => (reached.sp_down.store_errs high readOnly).errsProtected,
    fun writable readOnly => ((second writable).store_errs low readOnly).storing writable⟩

/-- A word is popped, low byte first; with the states of its two errors (45_stack.md section 3). -/
theorem Reaches.popWord {y : AddrReg} {d : Bool} (free : StackFree y)
    (reached : Reaches i n s g s.flags s.mem
      [(.xaddr (.addr .sp) (.addr .memaddr) OpFlags.inc, none), (.xdata .mem (.addr y), none),
        (.xaddr (.addr .sp) (.addr .memaddr) OpFlags.inc, none), (⟨.xdata, .mem, .addr y, OpFlags.msb, d⟩, none)]) :
    (∀ lo hi, s.mem.readByte g.sp.toNat = some lo → s.mem.readByte (g.sp + 1).toNat = some hi →
      RetiresWith i n s ((g.moved (g.sp + 2) (g.sp + 1)).setWord y (word hi lo)) s.flags) ∧
    (s.mem.readByte g.sp.toNat = none → ErrsProtected i s (g.moved (g.sp + 1) g.sp)) ∧
    (∀ lo, s.mem.readByte g.sp.toNat = some lo → s.mem.readByte (g.sp + 1).toNat = none →
      ErrsProtected i s ((g.moved (g.sp + 2) (g.sp + 1)).setWord y (word (hi8 (g.getWord y)) lo))) := by
  have second : ∀ lo, s.mem.readByte g.sp.toNat = some lo →
      Reaches i n s ((g.moved (g.sp + 2) (g.sp + 1)).setWord y (word (hi8 (g.getWord y)) lo)) s.flags s.mem
        [(⟨.xdata, .mem, .addr y, OpFlags.msb, d⟩, none)] := by
    intro lo mapped
    have moved := (reached.sp_up.loadHalf free.cursor mapped).sp_up
    rw [adjust_zero, loadByte_zero, free.getWord_moved, free.moved_setWord, free.sp_setWord, add_one_add_one] at moved
    exact moved
  have address : ∀ lo, ((g.moved (g.sp + 2) (g.sp + 1)).setWord y (word (hi8 (g.getWord y)) lo)).memaddr = g.sp + 1 :=
    fun lo => Regs.memaddr_setWord_other free.cursor ..
  refine ⟨fun lo hi mappedLo mappedHi => ?_, fun unmapped => (reached.sp_up.load_errs unmapped).errsProtected,
    fun lo mapped unmapped => ((second lo mapped).load_errs (by rwa [address])).errsProtected⟩
  have whole := (second lo mappedLo).loadHalf free.cursor (by rwa [address])
  rw [adjust_msb, loadByte_msb, Regs.getWord_setWord_same, lo8_word] at whole
  have both := Regs.setWord_setWord (g.moved (g.sp + 2) (g.sp + 1)) y (word (hi8 (g.getWord y)) lo) (word hi lo)
  exact RetiresLeaving.retiresWith (both ▸ whole.retires)

end

/-- The flags are imported from the low byte of TX (45_stack.md R337). -/
theorem cycleTakes_tx_flags {g : Regs} {f : Flags} {b : Option Byte} :
    CycleTakes ((Step.xaddr (.addr .tx) .alu OpFlags.flags).fin, b) g f g (flagsOfByte (lo8 g.tx)) := by
  rintro s rfl rfl
  exact ⟨_, cycle_addr_flags .., rfl, rfl, ⟨rfl, rfl, rfl, rfl⟩, rfl⟩

end Sys2Proof.Machine

/-! ### The stack instructions -/

namespace Sys2Proof.StackInstructions

open Sys2Proof Sys2Proof.Machine

/-- Settles O48: the steps push the register's word. -/
theorem pushWord : Obligations.PushWord := by
  intro w s v a
  obtain ⟨name, entry⟩ := microcode_push16 w
  have encoded := encodedAs_of_entry (Instr.toNat_opcode_push16 w) entry
  obtain ⟨both, first, second⟩ := (encoded.reaches_implied (s := s)).pushWord (BaseReg_stackFree w)
  rw [(BaseReg_fetchFree w).getWord_fetchedFor] at both second
  exact ⟨encoded, fun writable writable' =>
    (both writable writable').retires.storingTwo writable writable' (sub_one_ne_sub_two _), first, second⟩

/-- Settles O49: the steps pop the word at SP into the register. -/
theorem popWord : Obligations.PopWord := by
  intro w s a
  obtain ⟨name, entry⟩ := microcode_pop16 w
  have free := BaseReg_fetchFree w
  have encoded := encodedAs_of_entry (Instr.toNat_opcode_pop16 w) entry
  have pops := (encoded.reaches_implied (s := s)).popWord (BaseReg_stackFree w)
  rw [free.getWord_fetchedFor] at pops
  simp only [← free.setWord_fetchedFor]
  exact ⟨encoded, pops⟩

/-- Settles O51: the byte at SP goes to the low half of TX, and from there to the flags. -/
theorem popFlags : Obligations.PopFlags := by
  intro s a
  have entry : microcode .popf = Machine.popFlags "POPF" := rfl
  have encoded : EncodedAs .popf 0x5F .implied none none _ := encodedAs_of_entry rfl entry
  have moved := (encoded.reaches_implied (s := s)).sp_up
  refine ⟨encoded, fun b mapped => ?_, fun unmapped => (moved.load_errs unmapped).errsProtected⟩
  have imported := (moved.loadHalf (by decide) mapped).compute (rest := []) (.cons cycleTakes_tx_flags (.nil ..))
  have retires : RetiresWith .popf 5 s (fetchedFor .popf a { s.regs with sp := a + 1, tx := word (hi8 s.regs.tx) b })
      (flagsOfByte (lo8 (word (hi8 s.regs.tx) b))) := imported.retires.retiresWith
  rw [lo8_word] at retires
  exact retires

/-! ### Round trips -/

theorem not_errs_of_next {i : Instr} {s t : State} {g : Regs} (completes : exec i s = .next t)
    (errs : ErrsProtected i s g) : False := by
  obtain ⟨l, ⟨raises, -, -⟩, -⟩ := errs
  cases completes.symm.trans raises

/-- A push that completes stores the byte below SP. -/
theorem push8_completes {x : GReg} {s t : State} (completes : exec (.push8 x) s = .next t) :
    t.regs.sp = s.regs.sp - 1 ∧ StoresByte s t (s.regs.sp - 1) (s.regs.getByte x.reg) := by
  obtain ⟨-, retires, errs⟩ := pushByte x s
  cases writable : s.mem.writable (s.regs.sp - 1).toNat with
  | false => exact (not_errs_of_next completes (errs writable)).elim
  | true =>
    obtain ⟨t', ⟨completes', -, -⟩, regs, -, -, stores⟩ := retires writable
    cases completes.symm.trans completes'
    exact ⟨by rw [regs]; rfl, stores⟩

theorem pop8_completes (y : GReg) {u : State} {v : Byte} (mapped : u.mem.readByte u.regs.sp.toNat = some v) :
    ∃ z, exec (.pop8 y) u = .next z ∧ z.regs.getByte y.reg = v ∧ z.regs.sp = u.regs.sp + 1 ∧ MemorySame u z := by
  obtain ⟨-, retires, -⟩ := popByte y u
  obtain ⟨z, ⟨completes, -, -⟩, regs, -, -, same⟩ := retires v mapped
  refine ⟨z, completes, ?_, ?_, same⟩
  · rw [regs, getByte_fetchedFor, Regs.getByte_setByte_same]
  · rw [regs]
    exact Regs.getWord_setByte _ _ _ .sp

/-- A push that completes stores the two bytes below SP. -/
theorem push16_completes {x : BaseReg} {s t : State} (completes : exec (.push16 x) s = .next t) :
    t.regs.sp = s.regs.sp - 2 ∧ StoresTwoBytes s t (s.regs.sp - 1) (hi8 (s.regs.getWord x.reg)) (s.regs.sp - 2)
      (lo8 (s.regs.getWord x.reg)) := by
  obtain ⟨-, retires, first, second⟩ := pushWord x s
  cases writable : s.mem.writable (s.regs.sp - 1).toNat with
  | false => exact (not_errs_of_next completes (first writable)).elim
  | true =>
    cases writable' : s.mem.writable (s.regs.sp - 2).toNat with
    | false =>
      obtain ⟨l, ⟨raises, -, -⟩, -⟩ := second writable writable'
      cases completes.symm.trans raises
    | true =>
      obtain ⟨t', ⟨completes', -, -⟩, regs, -, -, stores⟩ := retires writable writable'
      cases completes.symm.trans completes'
      exact ⟨by rw [regs]; rfl, stores⟩

theorem pop16_completes (y : BaseReg) {u : State} {lo hi : Byte} (mappedLo : u.mem.readByte u.regs.sp.toNat = some lo)
    (mappedHi : u.mem.readByte (u.regs.sp + 1).toNat = some hi) :
    ∃ z, exec (.pop16 y) u = .next z ∧ z.regs.getWord y.reg = word hi lo ∧ z.regs.sp = u.regs.sp + 2 ∧
      MemorySame u z := by
  obtain ⟨-, retires, -⟩ := popWord y u
  obtain ⟨z, ⟨completes, -, -⟩, regs, -, -, same⟩ := retires lo hi mappedLo mappedHi
  refine ⟨z, completes, ?_, ?_, same⟩
  · rw [regs, (BaseReg_fetchFree y).getWord_fetchedFor, Regs.getWord_setWord_same]
  · rw [regs]
    exact (BaseReg_stackFree y).sp_setWord ..

/-- A PUSHF that completes stores the flags byte below SP. -/
theorem pushf_completes {s t : State} (completes : exec .pushf s = .next t) :
    t.regs.sp = s.regs.sp - 1 ∧ StoresByte s t (s.regs.sp - 1) (flagsByte s.flags) := by
  obtain ⟨-, retires, errs⟩ := pushFlags s
  cases writable : s.mem.writable (s.regs.sp - 1).toNat with
  | false => exact (not_errs_of_next completes (errs writable)).elim
  | true =>
    obtain ⟨t', ⟨completes', -, -⟩, regs, -, -, stores⟩ := retires writable
    cases completes.symm.trans completes'
    exact ⟨by rw [regs]; rfl, by rwa [flagsByte_eq_ofNat]⟩

theorem popf_completes {u : State} {v : Byte} (mapped : u.mem.readByte u.regs.sp.toNat = some v) :
    ∃ z, exec .popf u = .next z ∧ z.flags = flagsOfByte v ∧ z.regs.sp = u.regs.sp + 1 ∧ MemorySame u z := by
  obtain ⟨-, retires, -⟩ := popFlags u
  obtain ⟨z, ⟨completes, -, -⟩, regs, flags, -, same⟩ := retires v mapped
  exact ⟨z, completes, flags, by rw [regs]; rfl, same⟩

/-- Settles O52: the bytes that the pop reads are those the push stored, at the address where SP stands. -/
theorem stackRoundTrips : Obligations.StackRoundTrips := by
  refine ⟨fun x y s t u pushed sp kept => ?byte, fun x y s t u pushed sp keptHi keptLo => ?word,
    fun s t u pushed sp kept => ?flags⟩
  case byte =>
    obtain ⟨sp', stores⟩ := push8_completes pushed
    have here : u.regs.sp = s.regs.sp - 1 := sp.trans sp'
    obtain ⟨z, popped, value, sp'', same⟩ := pop8_completes y (by rw [here, kept, stores, if_pos rfl])
    exact ⟨z, popped, value, by rw [sp'', here, BitVec.sub_add_cancel], same, fun a other => by rw [stores, if_neg other]⟩
  case word =>
    obtain ⟨sp', stores⟩ := push16_completes pushed
    have here : u.regs.sp = s.regs.sp - 2 := sp.trans sp'
    have apart : (s.regs.sp - 2).toNat ≠ (s.regs.sp - 1).toNat := fun same =>
      sub_one_ne_sub_two s.regs.sp (BitVec.eq_of_toNat_eq same.symm)
    obtain ⟨z, popped, value, sp'', same⟩ := pop16_completes y
      (by rw [here, keptLo, stores, if_neg apart, if_pos rfl])
      (by rw [here, sub_two_add_one, keptHi, stores, if_pos rfl])
    exact ⟨z, popped, by rw [value, word_hi_lo], by rw [sp'', here, sub_two_add_two], same,
      fun a other other' => by rw [stores, if_neg other, if_neg other']⟩
  case flags =>
    obtain ⟨sp', stores⟩ := pushf_completes pushed
    have here : u.regs.sp = s.regs.sp - 1 := sp.trans sp'
    obtain ⟨z, popped, value, sp'', same⟩ := popf_completes (u := u) (by rw [here, kept, stores, if_pos rfl])
    exact ⟨z, popped, by rw [value, flagsOfByte_flagsByte], by rw [sp'', here, BitVec.sub_add_cancel], same,
      fun a other => by rw [stores, if_neg other]⟩

end Sys2Proof.StackInstructions

/-! ### Jumps, calls and returns -/

namespace Sys2Proof.ControlFlow

open Sys2Proof Sys2Proof.Machine

/-- Settles O53: the operand is fetched into PC itself, and no step follows. -/
theorem jump : Obligations.Jump := by
  intro target s
  have encoded : EncodedAs (.jmp target) 0x60 .immediateWord (some (.addr .pc)) none [] :=
    encodedAs_of_entry rfl (show microcode (.jmp target) = jumpImm _ from rfl)
  exact ⟨encoded, (encoded.reaches_immediateWord (by decide) rfl).retires.retiresWith⟩

/-- Settles O55: the target goes to TX, PC is pushed, and PC takes TX. -/
theorem call : Obligations.Call := by
  intro target s after a
  have encoded : EncodedAs (.call target) 0x67 .immediateWord (some (.addr .tx)) none _ :=
    encodedAs_of_entry rfl (show microcode (.call target) = callImm _ from rfl)
  obtain ⟨both, first, second⟩ :=
    (encoded.reaches_immediateWord (s := s) (w := target) (by decide) rfl).pushWord pc_stackFree
  refine ⟨encoded, fun writable writable' => ?_, first, second⟩
  have entered := (both writable writable').compute (rest := []) (.cons (cycleTakes_addr_addr_fin .tx .pc) (.nil ..))
  exact entered.retires.storingTwo writable writable' (sub_one_ne_sub_two _)

/-- Settles O56: the steps pop the word at SP into PC. -/
theorem return_ : Obligations.Return := by
  intro s a
  have encoded : EncodedAs .ret 0x68 .implied none none _ :=
    encodedAs_of_entry rfl (show microcode .ret = pop16 _ .pc from rfl)
  exact ⟨encoded, (encoded.reaches_implied (s := s)).popWord pc_stackFree⟩

end Sys2Proof.ControlFlow
end

section
/-! PROOFS. NOP, HLT and IN (47_io_system.md section 2): NOP has no step after the opcode fetch, HLT and IN have one, and the
channel of IN decides whether that one completes. -/

namespace Sys2Proof.Machine

open Sys2Proof

theorem microcode_input (r : GReg) (ch : Port) :
    ∃ name, microcode (.input r ch) = inputChannel name r.reg (BitVec.ofNat 4 ch.num) := by
  cases ch <;> cases r <;> exact ⟨_, rfl⟩

theorem encodedAs_input (r : GReg) (ch : Port) :
    EncodedAs (.input r ch) (0xE0 + 2 * r.num + ch.num) .implied none none
      [(Step.ioIn (BitVec.ofNat 4 ch.num) (.byte r.reg)).fin] := by
  obtain ⟨name, entry⟩ := microcode_input r ch
  exact encodedAs_of_entry (Instr.toNat_opcode_input r ch) entry

/-- The one step of an instruction without operands is its last cycle. -/
theorem EncodedAs.runsUpTo_step {i : Instr} {n : Nat} {subject : Option CompId} {st : Step} (s : State)
    (encoded : EncodedAs i n .implied subject none [st]) :
    RunsUpTo i 3 s (fetchedFor i s.regs.pc s.regs) [(st, none)] :=
  encoded.runsUpTo_implied (pre := []) (rest := [st]) (.nil ..)

/-! ### The step of IN -/

section
variable {x : ByteReg} {ch : Port} {u : State}

/-- The step of IN asks the port's channel for a byte and latches it (40_bus_transactions.md R167). -/
theorem cycle_inputStep (x : ByteReg) (ch : Port) (u : State) :
    cycle (Step.ioIn (BitVec.ofNat 4 ch.num) (.byte x)).fin false none u =
      andThen (channelInput ch.channel (programBus (Step.ioIn (BitVec.ofNat 4 ch.num) (.byte x)).fin u))
        fun t => .next (t.latchByte x t.bus.data) := by
  rw [← channel_ofCode_num]
  exact cycle_io_in ..

theorem cycle_inputStep_takes {v : Byte} {rest : List Byte} (installed : u.io.channels[ch.channel.val] = some .input)
    (bytes : u.io.input[ch.channel.val] = v :: rest) :
    ∃ t, cycle (Step.ioIn (BitVec.ofNat 4 ch.num) (.byte x)).fin false none u = .next t ∧
      t.regs = u.regs.setByte x v ∧ t.flags = u.flags ∧
      t.io = { u.io with input := u.io.input.set ch.channel.val rest } ∧
      t.lines = u.lines ∧ t.table = u.table ∧ t.mem = u.mem := by
  have read := channelInput_of_byte
    (s := programBus (Step.ioIn (BitVec.ofNat 4 ch.num) (.byte x)).fin u) installed bytes
  rw [cycle_inputStep, read]
  exact ⟨_, rfl, rfl, rfl, rfl, rfl, rfl, rfl⟩

theorem cycle_inputStep_refused (installed : u.io.channels[ch.channel.val] = some .input)
    (bytes : u.io.input[ch.channel.val] = []) :
    cycle (Step.ioIn (BitVec.ofNat 4 ch.num) (.byte x)).fin false none u = .refused (.inputExhausted ch.channel) := by
  have refused := channelInput_of_exhausted
    (s := programBus (Step.ioIn (BitVec.ofNat 4 ch.num) (.byte x)).fin u) installed bytes
  rw [cycle_inputStep, refused]
  rfl

theorem cycle_inputStep_raises (missing : u.io.channels[ch.channel.val] ≠ some .input) :
    ∃ l, cycle (Step.ioIn (BitVec.ofNat 4 ch.num) (.byte x)).fin false none u = .fault (.invalidComponentID l) ∧
      Computed u u.regs u.flags l := by
  have raised := channelInput_of_not_installed
    (s := programBus (Step.ioIn (BitVec.ofNat 4 ch.num) (.byte x)).fin u) missing
  rw [cycle_inputStep, raised]
  exact ⟨_, rfl, rfl, rfl, ⟨rfl, rfl, rfl, rfl⟩, rfl⟩

end

end Sys2Proof.Machine

/-! ### The instructions -/

namespace Sys2Proof.IoSystem

open Sys2Proof Sys2Proof.Machine

/-- Settles O57: NOP is the opcode fetch alone, and the one step of HLT sets the line. -/
theorem nopAndHalt : Obligations.NopAndHalt := by
  intro s
  have nop : EncodedAs .nop 0x00 .implied none none [] :=
    encodedAs_of_entry rfl (show microcode .nop = noOperation _ from rfl)
  have hlt : EncodedAs .hlt 0xFF .implied none none [(Step.other OpFlags.halt).fin] :=
    encodedAs_of_entry rfl (show microcode .hlt = haltRun _ from rfl)
  have reached := hlt.runsUpTo_step s
  obtain ⟨u, run, before⟩ := reached.exec_eq_last_cycle
  obtain ⟨lines, io, table, -⟩ := before.still
  refine ⟨⟨nop, nop.retires_implied (.nil ..)⟩, hlt, _, reached.retires_of_exec run, before.regs, before.flags, ?_, io,
    table, before.mem⟩
  exact congrArg (fun l => { l with halt := true }) lines

/-- Settles O58: past the opcode fetch only the IO step is left, and the channel decides its outcome. -/
theorem input : Obligations.Input := by
  intro r ch s
  have encoded := encodedAs_input r ch
  have reached := encoded.runsUpTo_step s
  obtain ⟨u, run, before⟩ := reached.exec_eq_last_cycle
  obtain ⟨lines, io, table, -⟩ := before.still
  refine ⟨encoded, fun v rest installed bytes => ?taken, fun missing => ?raised⟩
  case taken =>
    rw [← io] at installed bytes
    obtain ⟨t, done, regs, flags, source, lines', table', mem⟩ := cycle_inputStep_takes (x := r.reg) installed bytes
    rw [done, andThen_next, takeError_next] at run
    rw [before.regs, setByte_fetchedFor] at regs
    rw [io] at source
    exact ⟨_, reached.retires_of_exec run, regs, flags.trans before.flags, source, lines'.trans lines,
      table'.trans table, mem.trans before.mem⟩
  case raised =>
    rw [← io] at missing
    obtain ⟨l, raised, after⟩ := cycle_inputStep_raises (x := r.reg) missing
    rw [raised, andThen_fault, takeError_fault, Fault.mapLeft] at run
    obtain ⟨count, -⟩ := (retireCountsAndReports (.input r ch) s).2 _ run
    have left := before.trans after
    exact ⟨_, ⟨run, count, left.flags.trans before.flags⟩, left.regs.trans before.regs, left.still,
      fun a => congrArg (·.readByte a) left.mem⟩

/-- Settles O59: the refusal of the source is that of the instruction. -/
theorem inputExhausted : Obligations.InputExhausted := by
  intro r ch s installed bytes
  obtain ⟨u, run, before⟩ := ((encodedAs_input r ch).runsUpTo_step s).exec_eq_last_cycle
  obtain ⟨-, io, -, -⟩ := before.still
  rw [← io] at installed bytes
  rw [run, cycle_inputStep_refused installed bytes]
  rfl

end Sys2Proof.IoSystem
end

section
/-! PROOFS. An unmapped byte of the instruction stream (42_controller.md section 4): the step is followed through the cycles of
the fetch, which only compute and retire nothing, to the read that raises. -/

namespace Sys2Proof.Machine

open Sys2Proof

/-! ### Places in the fetch -/

/-- Since `s` the machine has only computed, with registers `g` now, and retired nothing. -/
structure FetchedSoFar (s : State) (g : Regs) (u : State) : Prop where
  computed : Computed s g s.flags u
  unretired : NothingRetired s u

/-- The outcome is ProtectedMemory, and since `s` the machine has only computed, with registers `g` now, and retired
nothing. -/
def StreamFault (o : Out) (s : State) (g : Regs) : Prop :=
  ∃ l, o = .fault (.protectedMemory l) ∧ l.regs = g ∧ l.flags = s.flags ∧ Undisturbed s l ∧ MemorySame s l ∧
    NothingRetired s l

/-- The step runs the entry's cycles and has come to `cs`, with registers `g`. -/
def StepFetches (e : Entry) (s : State) (g : Regs) (cs : List (Step × Option Byte)) : Prop :=
  cs <:+ bodyCycles e [] ∧ ∃ k u, step s = takeError (runCycles e cs k u) ∧ FetchedSoFar s g u

section
variable {e : Entry} {s u : State} {g g' : Regs} {st : Step} {b : Option Byte} {c : Step × Option Byte}
  {rest : List (Step × Option Byte)}

theorem FetchedSoFar.refl (s : State) : FetchedSoFar s s.regs s :=
  ⟨⟨rfl, rfl, ⟨rfl, rfl, rfl, rfl⟩, rfl⟩, (Quiet.refl s).nothingRetired⟩

theorem FetchedSoFar.withControl (fetched : FetchedSoFar s g u) (c : Control) :
    FetchedSoFar s g { u with control := c } :=
  ⟨fetched.computed.withControl c, fetched.unretired.withControl c⟩

/-- A cycle that computes. -/
theorem FetchedSoFar.cycle (fetched : FetchedSoFar s g u) (takes : LeadsTo (cycle st false b u) u g' u.flags) :
    ∃ t, Machine.cycle st false b u = .next t ∧ FetchedSoFar s g' t := by
  obtain ⟨t, run, here⟩ := leadsTo_iff.mp takes
  have unretired := cycle_unretired fetched.unretired st false b
  rw [run] at unretired
  rw [fetched.computed.flags] at here
  exact ⟨t, run, fetched.computed.trans here, unretired⟩

/-- A read from an unmapped address ends the step (42_controller.md R242). -/
theorem FetchedSoFar.faults {put : CompId} {o : OpFlags} (fetched : FetchedSoFar s g u) (k : State → Out)
    (unmapped : s.mem.readByte g.memaddr.toNat = none) :
    StreamFault (takeError (andThen (Machine.cycle (.xdata .mem put o) false none u) k)) s g := by
  obtain ⟨⟨regs, flags, still, mem⟩, unretired⟩ := fetched
  have raised := cycle_mem_fault put o false (s := u) (by rw [mem, regs, unmapped])
  exact ⟨_, congrArg (fun o => takeError (andThen o k)) raised, regs, flags, still,
    fun a => congrArg (·.readByte a) mem, unretired⟩

/-- A cycle that computes, before the last. -/
theorem StepFetches.cycle (fetches : StepFetches e s g ((st, b) :: c :: rest))
    (takes : ∀ u, u.regs = g → u.mem = s.mem → LeadsTo (Machine.cycle st false b u) u g' u.flags) :
    StepFetches e s g' (c :: rest) := by
  obtain ⟨place, k, u, run, fetched⟩ := fetches
  obtain ⟨t, done, after⟩ := fetched.cycle (takes u fetched.computed.regs fetched.computed.mem)
  exact ⟨(List.suffix_cons _ _).trans place, k + 1, _, by rw [run, runCycles_inner done], after.withControl _⟩

/-- A conditional entry ends with a jump, so a read is not its last cycle and is never suppressed (42_controller.md
R238). -/
theorem suppressed_read (wf : e.wellFormed = true) (read : st.kind = .xdata) (place : (st, b) :: rest <:+ bodyCycles e [])
    (f : Flags) : suppressed e rest.isEmpty f = false := by
  cases rest with
  | cons c rest => exact suppressed_inner e f
  | nil =>
    refine suppressed_plain (Option.eq_none_iff_forall_ne_some.mpr fun c cond => ?_) true f
    simp only [Entry.wellFormed, Entry.ewCond, cond, Bool.and_eq_true, Option.any_eq_true] at wf
    obtain ⟨⟨-, ⟨⟨last, isLast, ⟨jumps, -⟩⟩, -⟩, -⟩, -⟩ := wf
    obtain ⟨front, split⟩ := place
    have lastCycle := congrArg List.getLast? split
    simp only [bodyCycles, List.getLast?_append, List.getLast?_map, isLast, Option.map_some, Option.some_or]
      at lastCycle
    cases lastCycle
    simp [read] at jumps

/-- A read from an unmapped address. -/
theorem StepFetches.faults {put : CompId} {o : OpFlags} (fetches : StepFetches e s g ((.xdata .mem put o, none) :: rest))
    (wf : e.wellFormed = true) (unmapped : s.mem.readByte g.memaddr.toNat = none) : StreamFault (step s) s g := by
  obtain ⟨place, k, u, run, fetched⟩ := fetches
  rw [run, runCycles_cons, suppressed_read wf rfl place]
  exact fetched.faults _ unmapped

end

/-! ### The opcode -/

section
variable {s : State} {op : Byte} {e : Entry}

theorem Ready.step_eq (ready : Ready s) :
    step s = takeError (andThen (fetchOpcode none s) (decodeOpcode fun e => runBody e [])) := by
  obtain ⟨running, control, -⟩ := ready
  rw [stepIsTheMicrocodeRun s running]
  simp only [finishInstruction, control]

theorem streamFault_opcode (ready : Ready s) (unmapped : s.mem.readByte s.regs.pc.toNat = none) :
    StreamFault (step s) s { s.regs with pc := s.regs.pc + 1, memaddr := s.regs.pc } := by
  obtain ⟨t, addressed, after⟩ := (FetchedSoFar.refl s).cycle (cycleTakes_stream_address (b := none) s rfl rfl)
  rw [ready.step_eq, fetchOpcode, show cycle fetchStep1 false none s = .next t from addressed, andThen_next]
  exact (after.withControl _).faults _ unmapped

theorem stepFetches_body (ready : Ready s) (mapped : s.mem.readByte s.regs.pc.toNat = some op)
    (entry : defaultEntry op = some e) : StepFetches e s (fetchedRegs op s.regs) (bodyCycles e []) := by
  obtain ⟨t, run, here⟩ := leadsTo_iff.mp (fetchOpcode_leadsTo op s)
  have unretired := fetchOpcode_unretired (some op) s
  rw [run] at unretired
  obtain ⟨-, -, table⟩ := id ready
  have decoded : tableEntry t.table t.regs.ir = some e := by
    obtain ⟨-, -, table', -⟩ := here.still
    rw [table', table, here.regs]
    exact entry
  refine ⟨List.suffix_rfl, 2, { t with control := .running e 2 }, ?_, FetchedSoFar.withControl ⟨here, unretired⟩ _⟩
  rw [ready.step_eq, fetchOpcode_mapped mapped, run, andThen_next,
    decodeOpcode_of_entry decoded (defaultEntry_wellFormed entry), runBody]

/-! ### The operand -/

theorem microcode_msbFirst (i : Instr) : (microcode i).msbFirst = false := by
  cases i <;> rfl

/-- No entry of the default table fetches the high byte first (30_encoding.md R120). -/
theorem defaultEntry_msbFirst (h : defaultEntry op = some e) : e.msbFirst = false := by
  rw [defaultEntry_eq_entry] at h
  cases form : opcodeForm op with
  | plain i | byteOperand mk | wordOperand mk =>
    rw [form] at h
    cases h
    exact microcode_msbFirst _
  | unassigned =>
    rw [form] at h
    cases h

theorem streamFault_byteOperand (ready : Ready s) (mapped : s.mem.readByte s.regs.pc.toNat = some op)
    (entry : defaultEntry op = some e) (one : operandBytes e.mode = 1)
    (unmapped : s.mem.readByte (s.regs.pc + 1).toNat = none) :
    StreamFault (step s) s { s.regs with ir := op, pc := s.regs.pc + 2, memaddr := s.regs.pc + 1 } := by
  obtain ⟨put, rest, -, body⟩ := bodyCycles_byteOperand one
  have fetches := stepFetches_body ready mapped entry
  rw [body] at fetches
  have addressed := fetches.cycle fun u regs _ => cycleTakes_stream_address (b := none) u regs rfl
  rw [← add_one_add_one]
  exact addressed.faults (defaultEntry_wellFormed entry) unmapped

/-- The registers with the cursor elsewhere. -/
abbrev Regs.cursorAt (g : Regs) (a : Word) : Regs := { g with memaddr := a }

theorem Regs.getWord_cursorAt {r : AddrReg} (cursor : r ≠ .memaddr) (g : Regs) (a : Word) :
    (g.cursorAt a).getWord r = g.getWord r :=
  Regs.getWord_setWord_other g (r := .memaddr) a cursor

/-- The two reads of a word operand, low byte first (42_controller.md R229). -/
theorem stepFetches_wordOperand (ready : Ready s) (mapped : s.mem.readByte s.regs.pc.toNat = some op)
    (entry : defaultEntry op = some e) (two : operandBytes e.mode = 2) :
    wordSubject e ≠ .memaddr ∧ ∃ rest,
      StepFetches e s ((fetchedRegs op s.regs).cursorAt (s.regs.pc + 1))
        ((.xdata .mem (.addr (wordSubject e)) (OpFlags.inc ||| msbIf false), none) ::
          (.xdata .mem (.addr (wordSubject e)) (OpFlags.inc ||| msbIf true), none) :: rest) := by
  obtain ⟨cursor, rest, -, body⟩ := bodyCycles_wordOperand (defaultEntry_wellFormed entry) two
  have fetches := stepFetches_body ready mapped entry
  rw [body, defaultEntry_msbFirst entry] at fetches
  exact ⟨cursor, rest, fetches.cycle fun u regs _ => cycleTakes_addr_addr (b := none) .pc .memaddr u regs rfl⟩

theorem streamFault_lowByte (ready : Ready s) (mapped : s.mem.readByte s.regs.pc.toNat = some op)
    (entry : defaultEntry op = some e) (two : operandBytes e.mode = 2)
    (unmapped : s.mem.readByte (s.regs.pc + 1).toNat = none) :
    StreamFault (step s) s { s.regs with ir := op, pc := s.regs.pc + 1, memaddr := s.regs.pc + 1 } := by
  obtain ⟨-, rest, fetches⟩ := stepFetches_wordOperand ready mapped entry two
  exact fetches.faults (defaultEntry_wellFormed entry) unmapped

theorem streamFault_highByte {lo : Byte} (ready : Ready s) (mapped : s.mem.readByte s.regs.pc.toNat = some op)
    (entry : defaultEntry op = some e) (two : operandBytes e.mode = 2)
    (mappedLo : s.mem.readByte (s.regs.pc + 1).toNat = some lo)
    (unmapped : s.mem.readByte (s.regs.pc + 2).toNat = none) :
    StreamFault (step s) s
      (let g := { s.regs with ir := op, pc := s.regs.pc + 1, memaddr := s.regs.pc + 2 }
       g.setWord (wordSubject e) (word (hi8 (g.getWord (wordSubject e))) lo)) := by
  obtain ⟨cursor, rest, fetches⟩ := stepFetches_wordOperand ready mapped entry two
  have low := fetches.cycle fun u regs mem => by
    rw [← cycle_fetched false (v := lo) (by rw [mem, regs]; exact mappedLo)]
    exact cycleTakes_stream_half cursor false lo u regs rfl
  rw [add_one_add_one, Regs.getWord_cursorAt cursor, ← Regs.getWord_cursorAt cursor _ (s.regs.pc + 2)] at low
  refine low.faults (defaultEntry_wellFormed entry) ?_
  rw [Regs.memaddr_setWord_other cursor]
  exact unmapped

end

/-- Settles O15: up to the unmapped byte the fetch only computes, and the read of that byte raises. -/
theorem unmappedStreamByteFaults : Obligations.UnmappedStreamByteFaults := fun _ ready =>
  ⟨streamFault_opcode ready, fun _ _ mapped entry =>
    ⟨streamFault_byteOperand ready mapped entry, streamFault_lowByte ready mapped entry,
      fun _ => streamFault_highByte ready mapped entry⟩⟩

end Sys2Proof.Machine
end

section
/-! PROOFS. The errors and the flags of the instructions of the default table. Cycles that are not of kind IO raise ProtectedMemory
only, and cycles that do not put into the ALU leave the flags, whether they complete or raise; the instructions with other
cycles are found by their row of the opcode map (30_encoding.md R120) and have their outcomes from their own rules. -/

namespace Sys2Proof

/-! ### Families as rows of the opcode map -/

/-- The instruction is one that the form stands for, whatever its operand. -/
def OpcodeForm.Selects : OpcodeForm → Instr → Prop
  | .plain j, i => i = j
  | .byteOperand mk, i => ∃ b, i = mk b
  | .wordOperand mk, i => ∃ w, i = mk w
  | .unassigned, _ => False

theorem opcodeForm_selects (i : Instr) : (opcodeForm i.opcode).Selects i := by
  have decoded := decodeEncodeRoundTrip i []
  rw [Machine.encode_eq_opcode_cons] at decoded
  rcases decode_eq_ok decoded with ⟨op, form, eq⟩ | ⟨op, mk, b, form, rfl, eq⟩ | ⟨op, mk, lo, hi, form, rfl, eq⟩
  all_goals
    injection eq with opcode
    rw [opcode, form]
  · rfl
  · exact ⟨b, rfl⟩
  · exact ⟨word hi lo, rfl⟩

/-- The form that selects an instruction is in its row of the opcode map and has its entry. -/
theorem exists_form_of_row (i : Instr) :
    ∃ form ∈ opcodeRow (i.opcode.toNat / 16), form.Selects i ∧ form.entry = some (Machine.microcode i) := by
  have entry := (Machine.defaultEntry_eq_entry i.opcode).symm.trans (Machine.defaultEntry_opcode i)
  refine ⟨opcodeForm i.opcode, ?_, opcodeForm_selects i, entry⟩
  unfold opcodeForm at entry ⊢
  cases there : (opcodeRow (i.opcode.toNat / 16))[i.opcode.toNat % 16]? with
  | none =>
    rw [there] at entry
    cases entry
  | some form => exact List.mem_of_getElem? there

abbrev BinaryOp.all : List BinaryOp := [.add, .adc, .sub, .sbb, .and, .or, .xor, .cmp]
abbrev UnaryOp.all : List UnaryOp := [.not, .shl, .shr, .clr, .inc, .dec]
abbrev RegPair.all : List RegPair := [.ab, .ac, .ad, .bc, .bd, .cd]
abbrev GReg.all : List GReg := [.a, .b, .c, .d]
abbrev Port.all : List Port := [.p0, .p1]

theorem rows_aluReg : opcodeRow7 ++ opcodeRow8 ++ opcodeRow9 =
    BinaryOp.all.flatMap fun k => RegPair.all.map fun p => .plain (.aluReg k p) := rfl

theorem rows_aluImm : opcodeRowA ++ opcodeRowB =
    BinaryOp.all.flatMap fun k => GReg.all.map fun r => .byteOperand (.aluImm k r) := rfl

theorem rows_aluUnary : opcodeRowC ++ opcodeRowD =
    (UnaryOp.all.flatMap fun u => GReg.all.map fun r => .plain (.aluUnary u r)) ++ List.replicate 8 .unassigned := rfl

theorem row_io : opcodeRowE =
    (GReg.all.flatMap fun r => Port.all.map fun p => .plain (.input r p)) ++
      GReg.all.flatMap fun r => Port.all.map fun p => .plain (.output p r) := rfl

section
variable {i : Instr} {form : OpcodeForm}

theorem aluReg_of_selects (selects : form.Selects i) (row : form ∈ opcodeRow7 ++ opcodeRow8 ++ opcodeRow9) :
    ∃ k p, i = .aluReg k p := by
  rw [rows_aluReg, List.mem_flatMap] at row
  obtain ⟨k, -, inRow⟩ := row
  obtain ⟨p, -, rfl⟩ := List.mem_map.mp inRow
  exact ⟨k, p, selects⟩

theorem aluImm_of_selects (selects : form.Selects i) (row : form ∈ opcodeRowA ++ opcodeRowB) :
    ∃ k r v, i = .aluImm k r v := by
  rw [rows_aluImm, List.mem_flatMap] at row
  obtain ⟨k, -, inRow⟩ := row
  obtain ⟨r, -, rfl⟩ := List.mem_map.mp inRow
  exact ⟨k, r, selects⟩

theorem aluUnary_of_selects (selects : form.Selects i) (row : form ∈ opcodeRowC ++ opcodeRowD) :
    ∃ u r, i = .aluUnary u r := by
  rw [rows_aluUnary, List.mem_append, List.mem_flatMap] at row
  rcases row with ⟨u, -, inRow⟩ | unassigned
  · obtain ⟨r, -, rfl⟩ := List.mem_map.mp inRow
    exact ⟨u, r, selects⟩
  · rw [List.eq_of_mem_replicate unassigned] at selects
    exact selects.elim

theorem io_of_selects (selects : form.Selects i) (row : form ∈ opcodeRowE) :
    (∃ r p, i = .input r p) ∨ ∃ p r, i = .output p r := by
  rw [row_io, List.mem_append, List.mem_flatMap, List.mem_flatMap] at row
  rcases row with ⟨r, -, inRow⟩ | ⟨r, -, inRow⟩
  · obtain ⟨p, -, rfl⟩ := List.mem_map.mp inRow
    exact .inl ⟨r, p, selects⟩
  · obtain ⟨p, -, rfl⟩ := List.mem_map.mp inRow
    exact .inr ⟨p, r, selects⟩

end

end Sys2Proof

namespace Sys2Proof.Machine

open Sys2Proof

/-! ### What all cycles of an entry are -/

/-- The steps of an entry's cycles after the opcode fetch. -/
def cycleSteps (e : Entry) : List Step := (fetchOperands e).map Prod.fst ++ e.steps

theorem map_fst_supply (steps : List (Step × Bool)) (bytes : List Byte) :
    (supply steps bytes).map Prod.fst = steps.map Prod.fst := by
  induction steps generalizing bytes with
  | nil => rfl
  | cons c rest ih =>
    obtain ⟨st, fromStream⟩ := c
    cases fromStream with
    | false => simp only [supply, List.map_cons, ih]
    | true => cases bytes <;> simp only [supply, List.map_cons, ih]

theorem mem_cycleSteps_of_mem_bodyCycles {e : Entry} {bytes : List Byte} {c : Step × Option Byte}
    (mem : c ∈ bodyCycles e bytes) : c.1 ∈ cycleSteps e := by
  have steps : (bodyCycles e bytes).map Prod.fst = cycleSteps e := by
    rw [bodyCycles, List.map_append, map_fst_supply, List.map_map]
    exact congrArg _ (List.map_id _)
  exact steps ▸ List.mem_map_of_mem mem

/-! ### Outcomes within bounds -/

/-- The outcome is a next state with `P`, a fault with `Q` or a refusal with `R`. -/
def Within (P : State → Prop) (Q : Fault → Prop) (R : Refusal → Prop) : Out → Prop
  | .next t => P t
  | .fault f => Q f
  | .refused r => R r

/-- What is asked of states and faults does not depend on the controller, the counter and the events. -/
structure ControlBlind (P : State → Prop) (Q : Fault → Prop) : Prop where
  control : ∀ t c, P t → P { t with control := c }
  retire : ∀ e t, P t → P (retire e t)
  taken : ∀ f, Q f → Q (f.mapLeft State.betweenInstructions)

section
variable {P : State → Prop} {Q : Fault → Prop} {R : Refusal → Prop}

theorem Within.andThen {o : Out} {f : State → Out} (first : Within P Q R o) (rest : ∀ t, P t → Within P Q R (f t)) :
    Within P Q R (Machine.andThen o f) := by
  cases o with
  | next t => exact rest t first
  | fault e => exact first
  | refused r => exact first

/-- All cycles of the step, wherever they start, are within the bounds. -/
def StepWithin (P : State → Prop) (Q : Fault → Prop) (R : Refusal → Prop) (st : Step) : Prop :=
  ∀ sup b t, P t → Within P Q R (cycle st sup b t)

section
variable (blind : ControlBlind P Q)
include blind

theorem Within.takeError {o : Out} (h : Within P Q R o) : Within P Q R (Machine.takeError o) := by
  cases o with
  | next t => exact h
  | fault f => exact blind.taken f h
  | refused r => exact h

theorem runCycles_within {e : Entry} {cs : List (Step × Option Byte)} (k : Nat) {s : State} (start : P s)
    (steps : ∀ c ∈ cs, StepWithin P Q R c.1) : Within P Q R (runCycles e cs k s) := by
  induction cs generalizing k s with
  | nil => exact blind.retire e s start
  | cons c rest ih =>
    obtain ⟨first, later⟩ := List.forall_mem_cons.mp steps
    obtain ⟨st, b⟩ := c
    rw [runCycles_cons]
    exact (first _ b s start).andThen fun t here => ih (k + 1) (blind.control t _ here) later

/-- An instruction is within the bounds if all its cycles are. -/
theorem exec_within {i : Instr} {s : State} (start : P s)
    (steps : ∀ st ∈ fetchStep1 :: fetchStep2 :: cycleSteps (microcode i), StepWithin P Q R st) :
    Within P Q R (exec i s) := by
  obtain ⟨first, second, later⟩ : StepWithin P Q R fetchStep1 ∧ StepWithin P Q R fetchStep2 ∧ _ := by
    simpa only [List.forall_mem_cons] using steps
  rw [exec_eq_runEntry, runEntry]
  refine Within.takeError blind (Within.andThen ?fetch fun t fetched => ?body)
  case fetch => exact (first false none s start).andThen fun t here => second false _ _ (blind.control t _ here)
  case body =>
    exact runCycles_within blind 2 (blind.control t _ fetched) fun c mem =>
      later c.1 (mem_cycleSteps_of_mem_bodyCycles mem)

end

end

/-! ### The errors of a cycle that is not of kind IO -/

/-- The outcome is neither an error of an I/O channel nor a refusal. -/
abbrev ChannelFree : Out → Prop :=
  Within (fun _ => True) (fun f => f.code = .protectedMemory ∨ f.code = .invalidMicroCode) fun _ => False

/-- The outcome completes or is ProtectedMemory. -/
abbrev OnlyProtected : Out → Prop :=
  Within (fun _ => True) (fun f => f.code = .protectedMemory) fun _ => False

section
variable (s : State)

theorem channelFree_next : ChannelFree (.next s) := trivial

theorem channelFree_protectedMemory : ChannelFree (raise .protectedMemory s) := .inl rfl

theorem channelFree_invalidMicroCode : ChannelFree (raise .invalidMicroCode s) := .inr rfl

theorem driveMem_channelFree (f : OpFlags) (b : Option Byte) : ChannelFree (driveMem f b s) := by
  unfold driveMem
  split
  · exact channelFree_next _
  · exact channelFree_protectedMemory _

theorem latchMem_channelFree (f : OpFlags) : ChannelFree (latchMem f s) := by
  unfold latchMem
  split
  · exact channelFree_next _
  · exact channelFree_protectedMemory _

theorem aluOperate_channelFree (op : AluOp) : ChannelFree (aluOperate op s) := by
  unfold aluOperate
  split
  · exact channelFree_next _
  · exact channelFree_invalidMicroCode _

theorem driveByteSide_channelFree (st : Step) (b : Option Byte) : ChannelFree (driveByteSide st b s) := by
  unfold driveByteSide
  split
  case h_1 | h_2 => exact channelFree_next _
  case h_3 => exact driveMem_channelFree ..
  case h_4 | h_5 => exact channelFree_invalidMicroCode _

theorem driveWordSide_channelFree (st : Step) : ChannelFree (driveWordSide st s) := by
  unfold driveWordSide
  split
  case h_1 | h_2 | h_3 | h_4 => exact channelFree_next _
  case h_5 => exact channelFree_invalidMicroCode _

theorem latchByteSide_channelFree (st : Step) : ChannelFree (latchByteSide st s) := by
  unfold latchByteSide
  split
  case h_1 | h_2 => exact channelFree_next _
  case h_3 => exact latchMem_channelFree ..
  case h_4 =>
    split
    · exact aluOperate_channelFree ..
    · exact channelFree_invalidMicroCode _
  case h_5 => exact channelFree_invalidMicroCode _

theorem latchWordSide_channelFree (st : Step) : ChannelFree (latchWordSide st s) := by
  unfold latchWordSide
  split
  case h_1 | h_2 | h_3 => exact channelFree_next _
  case h_4 | h_5 => exact channelFree_invalidMicroCode _

section
variable {st : Step} (noIo : st.kind ≠ .io)
include noIo

theorem risingEdge_channelFree (b : Option Byte) : ChannelFree (risingEdge st b s) := by
  cases kind : st.kind with
  | xdata => simpa only [risingEdge, kind] using driveByteSide_channelFree s st b
  | xaddr => simpa only [risingEdge, kind] using driveWordSide_channelFree s st
  | io => exact absurd kind noIo
  | other => simp only [risingEdge, kind, Within]

theorem highClock_channelFree : ChannelFree (highClock st s) := by
  cases kind : st.kind with
  | xdata => simpa only [highClock, kind] using latchByteSide_channelFree s st
  | xaddr => simpa only [highClock, kind] using latchWordSide_channelFree s st
  | io => exact absurd kind noIo
  | other => simp only [highClock, kind, Within]

end

end

/-- A well-formed step that is not of kind IO raises ProtectedMemory only (60_exceptions.md R400). -/
theorem stepWithin_onlyProtected {st : Step} (wf : st.wellFormed = true) (noIo : st.kind ≠ .io) :
    StepWithin (fun _ => True) (fun f => f.code = .protectedMemory) (fun _ => False) st := by
  intro sup b s _
  cases sup with
  | true =>
    rw [cycle_suppressed]
    trivial
  | false =>
    have channelFree : ChannelFree (cycle st false b s) :=
      (risingEdge_channelFree _ noIo b).andThen fun t _ => highClock_channelFree t noIo
    have defined := cycle_defined wf b s
    cases run : cycle st false b s with
    | next t => trivial
    | fault f =>
      rw [run] at channelFree defined
      exact channelFree.resolve_right defined
    | refused r =>
      rw [run] at channelFree
      exact channelFree

/-! ### The flags of a cycle that does not put into the ALU -/

/-- The flags are `f` in the state that the outcome has, if any. -/
abbrev KeepsFlags (f : Flags) : Out → Prop :=
  Within (fun t => t.flags = f) (fun e => e.left.flags = f) fun _ => True

section
variable {f : Flags} {s : State} (before : s.flags = f)
include before

theorem driveByteSide_keepsFlags (st : Step) (b : Option Byte) : KeepsFlags f (driveByteSide st b s) := by
  unfold driveByteSide
  split
  case h_3 =>
    unfold driveMem
    split <;> exact before
  all_goals exact before

theorem risingEdge_keepsFlags (st : Step) (b : Option Byte) : KeepsFlags f (risingEdge st b s) := by
  unfold risingEdge
  split
  case h_1 => exact driveByteSide_keepsFlags before st b
  case h_2 =>
    unfold driveWordSide
    split <;> exact before
  case h_3 =>
    split
    · unfold channelInput
      split
      · split
        · trivial
        · exact before
      · exact before
    · exact driveByteSide_keepsFlags before st none
  case h_4 => exact before

section
variable {st : Step} (noAlu : st.put ≠ .alu)
include noAlu

theorem latchByteSide_keepsFlags : KeepsFlags f (latchByteSide st s) := by
  unfold latchByteSide
  split
  case h_3 =>
    unfold latchMem
    split <;> exact before
  case h_4 put => exact absurd put noAlu
  all_goals exact before

theorem highClock_keepsFlags : KeepsFlags f (highClock st s) := by
  unfold highClock
  split
  case h_1 => exact latchByteSide_keepsFlags before noAlu
  case h_2 =>
    unfold latchWordSide
    split
    case h_3 put => exact absurd put noAlu
    all_goals exact before
  case h_3 =>
    split
    · exact latchByteSide_keepsFlags before noAlu
    · unfold channelOutput
      split <;> exact before
  case h_4 =>
    split <;> exact before

end

end

/-- Only an ALU operation or a flags import puts into the ALU (10_state.md R30). -/
theorem stepWithin_keepsFlags {st : Step} (noAlu : st.put ≠ .alu) (f : Flags) :
    StepWithin (fun t => t.flags = f) (fun e => e.left.flags = f) (fun _ => True) st := by
  intro sup b s before
  have noAlu' : (effectiveStep st sup).put ≠ .alu := by
    cases sup with
    | true => exact fun put => by cases put
    | false => exact noAlu
  exact (risingEdge_keepsFlags (s := programBus (effectiveStep st sup) s) before _ b).andThen
    fun t after => highClock_keepsFlags after noAlu'

/-! ### The instructions of each class -/

/-- Every cycle of the entry is well formed and not of kind IO. -/
def MemoryOnly (e : Entry) : Bool :=
  (fetchStep1 :: fetchStep2 :: cycleSteps e).all fun st => st.wellFormed && st.kind != .io

/-- No cycle of the entry puts into the ALU. -/
def FlagsFree (e : Entry) : Bool :=
  (fetchStep1 :: fetchStep2 :: cycleSteps e).all fun st => st.put != .alu

section
variable {i : Instr} {forms : List OpcodeForm} {form : OpcodeForm} {p : Entry → Bool} {e : Entry}

/-- All entries of a row of the opcode map pass a check. -/
def AllEntries (p : Entry → Bool) (forms : List OpcodeForm) : Bool := forms.all fun form => form.entry.all p

theorem AllEntries.of_mem (all : AllEntries p forms = true) (row : form ∈ forms) (entry : form.entry = some e) :
    p e = true := by
  have passes := List.all_eq_true.mp all form row
  rwa [entry] at passes

end

/-- Only the instructions of row E_ have an IO step. -/
theorem memoryOnly_or_io (i : Instr) :
    MemoryOnly (microcode i) = true ∨ (∃ r p, i = .input r p) ∨ ∃ p r, i = .output p r := by
  obtain ⟨form, row, selects, entry⟩ := exists_form_of_row i
  have only {forms} (all : AllEntries MemoryOnly forms = true) (row : form ∈ forms) := AllEntries.of_mem all row entry
  generalize i.opcode.toNat / 16 = r at row
  match r with
  | 0 | 1 | 2 | 3 | 4 | 5 | 6 | 7 | 8 | 9 | 10 | 11 | 12 | 13 | 15 => exact .inl (only (by decide) row)
  | 14 => exact .inr (io_of_selects selects row)
  | _ + 16 => nomatch row

/-- Only the instructions of rows 7_ to D_ and POPF put into the ALU. -/
theorem flagsFree_or_alu (i : Instr) :
    FlagsFree (microcode i) = true ∨ (∃ k p, i = .aluReg k p) ∨ (∃ k r v, i = .aluImm k r v) ∨
      (∃ u r, i = .aluUnary u r) ∨ i = .popf := by
  obtain ⟨form, row, selects, entry⟩ := exists_form_of_row i
  have free {forms} (all : AllEntries FlagsFree forms = true) (row : form ∈ forms) := AllEntries.of_mem all row entry
  generalize i.opcode.toNat / 16 = r at row
  match r with
  | 0 | 1 | 2 | 3 | 4 | 6 | 14 | 15 => exact .inl (free (by decide) row)
  | 5 =>
    rw [show opcodeRow 5 = opcodeRow5.dropLast ++ [.plain .popf] from rfl, List.mem_append, List.mem_singleton] at row
    rcases row with row | rfl
    · exact .inl (free (by decide) row)
    · exact .inr (.inr (.inr (.inr selects)))
  | 7 => exact .inr (.inl (aluReg_of_selects selects (List.mem_append_left _ (List.mem_append_left _ row))))
  | 8 => exact .inr (.inl (aluReg_of_selects selects (List.mem_append_left _ (List.mem_append_right _ row))))
  | 9 => exact .inr (.inl (aluReg_of_selects selects (List.mem_append_right _ row)))
  | 10 => exact .inr (.inr (.inl (aluImm_of_selects selects (List.mem_append_left _ row))))
  | 11 => exact .inr (.inr (.inl (aluImm_of_selects selects (List.mem_append_right _ row))))
  | 12 => exact .inr (.inr (.inr (.inl (aluUnary_of_selects selects (List.mem_append_left _ row)))))
  | 13 => exact .inr (.inr (.inr (.inl (aluUnary_of_selects selects (List.mem_append_right _ row)))))
  | _ + 16 => nomatch row

end Sys2Proof.Machine

/-! ### The obligations -/

namespace Sys2Proof.IoSystem

open Sys2Proof Sys2Proof.Machine

/-- IN completes, is refused for want of a byte, or raises InvalidComponentID (47_io_system.md R371). -/
theorem input_outcomes (r : GReg) (ch : Port) (s : State) :
    (∃ t, exec (.input r ch) s = .next t) ∨ exec (.input r ch) s = .refused (.inputExhausted ch.channel) ∨
      ∃ l, exec (.input r ch) s = .fault (.invalidComponentID l) := by
  obtain ⟨-, takes, raises⟩ := input r ch s
  by_cases installed : s.io.channels[ch.channel.val] = some .input
  · cases bytes : s.io.input[ch.channel.val] with
    | nil => exact .inr (.inl (inputExhausted r ch s installed bytes))
    | cons v rest =>
      obtain ⟨t, ⟨completes, -⟩, -⟩ := takes v rest installed bytes
      exact .inl ⟨t, completes⟩
  · obtain ⟨l, ⟨raised, -⟩, -⟩ := raises installed
    exact .inr (.inr ⟨l, raised⟩)

/-- OUT completes or raises InvalidComponentID (47_io_system.md R372). -/
theorem output_outcomes (ch : Port) (r : GReg) (s : State) :
    (∃ t, exec (.output ch r) s = .next t) ∨ ∃ l, exec (.output ch r) s = .fault (.invalidComponentID l) := by
  obtain ⟨-, delivers, raises⟩ := output ch r s
  by_cases installed : s.io.channels[ch.channel.val] = some .output
  · obtain ⟨t, ⟨completes, -⟩, -⟩ := delivers installed
    exact .inl ⟨t, completes⟩
  · obtain ⟨l, ⟨raised, -⟩, -⟩ := raises installed
    exact .inr ⟨l, raised⟩

end Sys2Proof.IoSystem

namespace Sys2Proof.Machine

open Sys2Proof

theorem exec_onlyProtected {i : Instr} (only : MemoryOnly (microcode i) = true) (s : State) : OnlyProtected (exec i s) := by
  have blind : ControlBlind (fun _ => True) (fun f => f.code = .protectedMemory) :=
    ⟨fun _ _ _ => trivial, fun _ _ _ => trivial, fun f code => by cases f <;> exact code⟩
  refine exec_within blind trivial fun st mem => ?_
  have good := List.all_eq_true.mp only st mem
  obtain ⟨wf, noIo⟩ : st.wellFormed = true ∧ st.kind ≠ .io := by simpa using good
  exact stepWithin_onlyProtected wf noIo

theorem exec_keepsFlags {i : Instr} (free : FlagsFree (microcode i) = true) (s : State) :
    KeepsFlags s.flags (exec i s) := by
  have blind : ControlBlind (fun t => t.flags = s.flags) (fun e => e.left.flags = s.flags) :=
    ⟨fun _ _ h => h, fun _ _ h => h, fun f h => by rw [Fault.left_mapLeft]; exact h⟩
  refine exec_within blind rfl fun st mem => stepWithin_keepsFlags ?_ s.flags
  simpa using List.all_eq_true.mp free st mem

/-- An error leaves the controller between instructions (log 2). -/
theorem control_of_exec_fault {i : Instr} {s : State} {f : Fault} (raises : exec i s = .fault f) :
    f.left.control = .fetchOpcode1 := by
  rw [exec_eq_runEntry, runEntry] at raises
  generalize andThen (fetchOpcode (encode i).head? s) (runBody (microcode i) (encode i).tail) = o at raises
  cases o with
  | fault e =>
    cases raises
    rw [Fault.left_mapLeft]
    rfl
  | next t => cases raises
  | refused r => cases raises

/-- Settles O17: IN and OUT have their outcomes from their own rules, the cycles of all others raise ProtectedMemory only. -/
theorem errorsOfTheDefaultTable : Obligations.ErrorsOfTheDefaultTable := by
  intro i s
  suffices errors : Within (fun _ => True)
      (fun f => f.code = .protectedMemory ∨
        f.code = .invalidComponentID ∧ ((∃ r p, i = .input r p) ∨ ∃ p r, i = .output p r))
      (fun r => ∃ g p, i = .input g p ∧ r = .inputExhausted p.channel) (exec i s) by
    refine ⟨fun f raises => ⟨control_of_exec_fault raises, ?_⟩, fun r refuses => ?_⟩
    · rwa [raises] at errors
    · rwa [refuses] at errors
  rcases memoryOnly_or_io i with only | ⟨r, p, rfl⟩ | ⟨p, r, rfl⟩
  · have protectedOnly := exec_onlyProtected only s
    cases run : exec i s with
    | next t => trivial
    | fault f =>
      rw [run] at protectedOnly
      exact .inl protectedOnly
    | refused r =>
      rw [run] at protectedOnly
      exact protectedOnly.elim
  · rcases IoSystem.input_outcomes r p s with ⟨t, run⟩ | run | ⟨l, run⟩ <;> rw [run]
    · trivial
    · exact ⟨r, p, rfl, rfl⟩
    · exact .inr ⟨rfl, .inl ⟨r, p, rfl⟩⟩
  · rcases IoSystem.output_outcomes p r s with ⟨t, run⟩ | ⟨l, run⟩ <;> rw [run]
    · trivial
    · exact .inr ⟨rfl, .inr ⟨p, r, rfl⟩⟩

/-! ### The flags -/

/-- ALU instructions access no memory, and never raise (44_alu_instructions.md R300 to R324). -/
theorem exec_aluReg_completes (k : BinaryOp) (p : RegPair) (s : State) : ∃ t, exec (.aluReg k p) s = .next t := by
  by_cases compares : k = .cmp
  · obtain ⟨-, t, ⟨completes, -⟩, -⟩ := AluInstructions.compareRegisters p s
    exact ⟨t, compares ▸ completes⟩
  · obtain ⟨-, t, ⟨completes, -⟩, -⟩ := AluInstructions.aluRegisterRegister k p s compares
    exact ⟨t, completes⟩

theorem exec_aluImm_completes (k : BinaryOp) (r : GReg) (v : Byte) (s : State) :
    ∃ t, exec (.aluImm k r v) s = .next t := by
  by_cases compares : k = .cmp
  · obtain ⟨-, t, ⟨completes, -⟩, -⟩ := AluInstructions.compareImmediate r v s
    exact ⟨t, compares ▸ completes⟩
  · obtain ⟨-, t, ⟨completes, -⟩, -⟩ := AluInstructions.aluRegisterImmediate k r v s compares
    exact ⟨t, completes⟩

theorem exec_aluUnary_completes (u : UnaryOp) (r : GReg) (s : State) : ∃ t, exec (.aluUnary u r) s = .next t := by
  obtain ⟨-, t, ⟨completes, -⟩, -⟩ := AluInstructions.aluUnary u r s
  exact ⟨t, completes⟩

/-- POPF raises before it imports the flags (45_stack.md R337). -/
theorem flags_of_exec_popf_fault {s : State} {f : Fault} (raises : exec .popf s = .fault f) : f.left.flags = s.flags := by
  obtain ⟨-, pops, errs⟩ := StackInstructions.popFlags s
  cases mapped : s.mem.readByte s.regs.sp.toNat with
  | some b =>
    obtain ⟨t, ⟨completes, -⟩, -⟩ := pops b mapped
    cases completes.symm.trans raises
  | none =>
    obtain ⟨l, ⟨raised, -, flags⟩, -⟩ := errs mapped
    cases raised.symm.trans raises
    exact flags

theorem not_fault_of_completes {i : Instr} {s : State} {f : Fault} (completes : ∃ t, exec i s = .next t) :
    exec i s ≠ .fault f := by
  obtain ⟨t, completes⟩ := completes
  rw [completes]
  exact fun raises => by cases raises

/-- Settles O21: the ALU instructions never raise, POPF raises before it imports, and all others keep the flags. -/
theorem flagsOnlyChangedByAluAndPopf : Obligations.FlagsOnlyChangedByAluAndPopf := by
  intro i s
  rcases flagsFree_or_alu i with free | alu
  · have keeps := exec_keepsFlags free s
    refine ⟨fun t completes => .inl ?_, fun f raises => ?_⟩
    · rwa [completes] at keeps
    · rwa [raises] at keeps
  · refine ⟨fun _ _ => .inr alu, fun f raises => ?_⟩
    rcases alu with ⟨k, p, rfl⟩ | ⟨k, r, v, rfl⟩ | ⟨u, r, rfl⟩ | rfl
    · exact (not_fault_of_completes (exec_aluReg_completes k p s) raises).elim
    · exact (not_fault_of_completes (exec_aluImm_completes k r v s) raises).elim
    · exact (not_fault_of_completes (exec_aluUnary_completes u r s) raises).elim
    · exact flags_of_exec_popf_fault raises

end Sys2Proof.Machine
end
